-- ==== Sys2Proof/Word.lean ====
section
/-! DEFINITION. The word types of the Tiskon 4816: bytes, 32-bit words of the surface image, and the numbers of its
faders, meters, bays, strip positions and drive slots. -/

namespace Sys2Proof

/-- One byte lane of the local bus, or one byte of a link frame. -/
abbrev Byte := BitVec 8

/-- A 32-bit word of the surface image, bits numbered from 0 (chapter 12). -/
abbrev Word := BitVec 32

/-- A fader number 0..47 (R1). -/
abbrev FaderId := Fin 48

/-- A meter number 0..47, like the strips (R114). -/
abbrev MeterId := Fin 48

/-- A bay number 0..5 (00_scope.md, Terms: bay). -/
abbrev BayId := Fin 6

/-- A strip position 0..7 of a bay (00_scope.md, Terms: bay). -/
abbrev Position := Fin 8

/-- A drive slot number 0..15 (R41). -/
abbrev SlotId := Fin 16

/-- The 16-bit tag of a request (R24, section 2.1). -/
abbrev Tag := BitVec 16

end Sys2Proof
end

