-- ==== Sys2Proof/Syntax.lean ====
section
/-! DEFINITION. The commands of the part: one constructor per row of spec/opcode_table.json, with the operands the
rules give each of them. A bus command names the word of the surface image it reaches and carries the byte lanes the
processor wrote (R156, R157); an event command names the slot, fader, meter or bay it happens to. -/

namespace Sys2Proof

/-- The byte lanes of one bus access: the data of a lane that is written (or returned), none for a lane that is not
(R156). Lane 0 holds the least significant byte (00_scope.md, Conventions). -/
structure Lanes where
  lane0 : Option Byte
  lane1 : Option Byte
  lane2 : Option Byte
  lane3 : Option Byte
  deriving DecidableEq, Repr

/-- Lanes 1..3 of a write to a command word whose code stands in lane 0 (R157 and section 12.3). -/
structure UpperLanes where
  lane1 : Option Byte
  lane2 : Option Byte
  lane3 : Option Byte
  deriving DecidableEq, Repr

/-- The setup words a SETUP_WRITE reaches: every setup word of section 12.1, 12.2 and 12.4 that has no row of its
own. -/
inductive SetupWord where
  | stallSetup
  | moveLimit
  | homingA
  | homingB
  | touchSetup
  | cutPosition
  | lateLimit
  | levelsFirst
  | levelsSecond
  | attentionControl
  | faderA (f : FaderId)
  | faderB (f : FaderId)
  | meterA (m : MeterId)
  | meterB (m : MeterId)
  | meterC (m : MeterId)
  deriving DecidableEq, Repr

/-- The staging words: cue staging (R91), recall pairs (R104), taper staging (section 1.6) and scale staging
(R122). -/
inductive StagingWord where
  | cueTag
  | cueDue
  | cueGain
  | cueGuard
  | taperCount
  | taperPoint (k : Fin 16)
  | scaleThreshold (i : Fin 32)
  | recallPair (j : Fin 48)
  deriving DecidableEq, Repr

/-- The command words (R155), whose writes are taken as pulses. -/
inductive CommandWord where
  | runControl
  | faderCommand (f : FaderId)
  | cueArm
  | cueCancel
  | recallCommit
  | taperCommit
  | scaleCommit
  | acknowledge
  deriving DecidableEq, Repr

/-- The three aliases of a fader control word (R158). -/
inductive AliasKind where
  | set
  | clear
  | toggle
  deriving DecidableEq, Repr

/-- The two moved words (R83): faders 0..31, and faders 32..47. -/
inductive MovedHalf where
  | low
  | high
  deriving DecidableEq, Repr

/-- The commands and events of the part, one constructor per row of spec/opcode_table.json, in the table's order. -/
inductive Instr where
  /-- RESET: the reset input is asserted (R40). -/
  | reset
  /-- RESET_RELEASE: the reset input is released with the straps IMG_SEL3..IMG_SEL0 reading `straps` (R154). -/
  | resetRelease (straps : BitVec 4)
  /-- FRAME_EXPIRY: the frame timer expires (R131). -/
  | frameExpiry
  /-- CUE_FIRING: cues fall due at the advance, in list order from the head (R97, R98). -/
  | cueFiring
  /-- INTAKE_TIMEOUT: a meter's intake timer reaches its timeout (R119). -/
  | intakeTimeout (m : MeterId)
  /-- MOVE_TIMEOUT: a Moving slot's age exceeds the move limit (R54). -/
  | moveTimeout (i : SlotId)
  /-- PARK_TIMEOUT: a Park phase's age exceeds the move limit (R68). -/
  | parkTimeout (i : SlotId)
  /-- HOLD_EXPIRY: a Holding slot's hold timer reaches 0 (R55). -/
  | holdExpiry (i : SlotId)
  /-- HOME_LIMIT_EXCEEDED: the phase age of a homing in Down or Up exceeds the home limit (R65). -/
  | homeLimitExceeded (i : SlotId)
  /-- RELEASING_END: a Releasing fader's guard timer reaches 0 (R75, R80). -/
  | releasingEnd (f : FaderId)
  /-- QUIET_INTERVAL_END: the running quiet interval counts down to 0 (R149). -/
  | quietIntervalEnd
  /-- MISSED_FRAME: a bay's sense window closes unanswered (R132). -/
  | missedFrame (b : BayId)
  /-- SENSE_FRAME: the bytes of a frame are received on the link of a bay (R131, R134). -/
  | senseFrame (b : BayId) (bytes : List Byte)
  /-- SLOT_GRANT: the head of the wait queue is granted the lowest free slot (R43). -/
  | slotGrant
  /-- PRE_EMPTION: the head of the wait queue takes the oldest Holding slot (R45). -/
  | preEmption
  /-- TARGET_WRITE: a write to a fader's target word (R14). -/
  | targetWrite (f : FaderId) (w : Lanes)
  /-- CONTROL_WRITE: a write to a fader's control word (R7). -/
  | controlWrite (f : FaderId) (w : Lanes)
  /-- SET_ALIAS: a write to the set alias of a control word (R158). -/
  | setAlias (f : FaderId) (w : Lanes)
  /-- CLEAR_ALIAS: a write to the clear alias of a control word (R158). -/
  | clearAlias (f : FaderId) (w : Lanes)
  /-- TOGGLE_ALIAS: a write to the toggle alias of a control word (R158). -/
  | toggleAlias (f : FaderId) (w : Lanes)
  /-- LEVEL_INTAKE: a write to a meter's level intake word (R115). -/
  | levelIntake (m : MeterId) (w : Lanes)
  /-- SURFACE_TIME_SET: a write to the surface time word (R89). -/
  | surfaceTimeSet (w : Lanes)
  /-- SLOT_LIMIT_WRITE: a write to the slot limit word (R42). -/
  | slotLimitWrite (w : Lanes)
  /-- QUIET_WRITE: a write to the quiet word (R149). -/
  | quietWrite (w : Lanes)
  /-- SETUP_WRITE: a write to any other setup word (R156). -/
  | setupWrite (sw : SetupWord) (w : Lanes)
  /-- STAGING_WRITE: a write to a staging word (R91). -/
  | stagingWrite (st : StagingWord) (w : Lanes)
  /-- WORD_WRITE: a write at a bus address whose word the part ignores (R155). -/
  | wordWrite (addr : BitVec 32) (w : Lanes)
  /-- STOP: the Stop code in the run control word (R37). -/
  | stop (u : UpperLanes)
  /-- RESUME: the Resume code in the run control word (R38). -/
  | resume (u : UpperLanes)
  /-- RESTART: the Restart code in the run control word (R39). -/
  | restart (u : UpperLanes)
  /-- HOME: the Home code in a fader's command word (R32). -/
  | home (f : FaderId) (u : UpperLanes)
  /-- RELEASE: the Release code in a fader's command word (R34). -/
  | release (f : FaderId) (u : UpperLanes)
  /-- CUE_ARM: the arm code in the cue arm word (R94). -/
  | cueArm (u : UpperLanes)
  /-- CUE_CANCEL: the cancel code in the cue cancel word, the tag in lanes 2 and 3 (R95). -/
  | cueCancel (u : UpperLanes)
  /-- COMMIT: the commit code in the recall commit word, count and ramp in the upper lanes (R106). -/
  | commit (u : UpperLanes)
  /-- UNDO: the undo code in the recall commit word (R111). -/
  | undo (u : UpperLanes)
  /-- TAPER_COMMIT: the commit code in the taper commit word (R20). -/
  | taperCommit (u : UpperLanes)
  /-- SCALE_COMMIT: the commit code in the scale commit word (R123). -/
  | scaleCommit (u : UpperLanes)
  /-- ACKNOWLEDGE: a source number in the acknowledge word (R148). -/
  | acknowledge (n : Byte) (u : UpperLanes)
  /-- UNKNOWN_COMMAND: a code its command word does not list (R152, R162). -/
  | unknownCommand (cw : CommandWord) (code : Byte) (u : UpperLanes)
  /-- PRESENT_GAIN_READ: a read of a fader's present gain word (R22). -/
  | presentGainRead (f : FaderId)
  /-- PORT_A_READ: a read of completion port word A (R144). -/
  | portARead
  /-- PORT_B_READ: a read of completion port word B (R145). -/
  | portBRead
  /-- MOVED_WORD_READ: a read of the low or high moved word (R83). -/
  | movedWordRead (half : MovedHalf)
  /-- READOUT_2_READ: a read of a meter's second readout word (R126). -/
  | readout2Read (m : MeterId)
  deriving DecidableEq, Repr

end Sys2Proof
end

