-- ==== Sys2Proof/Decode.lean ====
section
/-! DEFINITION. The command that a word spells by the bits of spec/opcode_table.json. No row of the table gives bits
(every row's "fields" is empty and none has "fixed"), so no word spells a command: the part's commands are bus accesses,
link frames and events, whose decoding stands in Machine/ImageMap.lean and Machine/Links.lean. -/

namespace Sys2Proof

/-- The command of a table word: none, for no row of the table gives bits. -/
def decodeTableWord (_nbits _w : Nat) : Option Instr :=
  none

end Sys2Proof
end

