-- ==== Sys2Proof/Config.lean ====
section
/-! DEFINITION. The constants the spec fixes for the part: ranges of gains and levels, table defaults, capacities and
frame markers. The part has no value that an implementation chooses, so nothing here is free. -/

namespace Sys2Proof.Config

/-- The lowest gain a taper table may hold, -120.00 dB in centidB (R10). -/
def gainMin : Int := -12000

/-- The highest gain a taper table may hold, +24.00 dB in centidB (R10). -/
def gainMax : Int := 2400

/-- The lowest meter level, -60.00 dB in centidB (R114). -/
def levelMin : Int := -6000

/-- The highest meter level, +20.00 dB in centidB (R114). -/
def levelMax : Int := 2000

/-- The eleven points of the default taper table, per-mille position and centidB gain (R10). -/
def defaultTaper : List (Nat × Int) :=
  [(0, -9000), (60, -6000), (150, -4000), (250, -3000), (350, -2000), (450, -1500), (550, -1000), (650, -500),
    (750, 0), (875, 500), (1000, 1000)]

/-- The default scale table: threshold i is -6000 + 250 * i for i = 0..31 (R121). -/
def defaultScale : List Int :=
  [-6000, -5750, -5500, -5250, -5000, -4750, -4500, -4250] ++
    [-4000, -3750, -3500, -3250, -3000, -2750, -2500, -2250] ++
    [-2000, -1750, -1500, -1250, -1000, -750, -500, -250] ++ [0, 250, 500, 750, 1000, 1250, 1500, 1750]

/-- The longest ramp, in frames (R24). -/
def maxRamp : Nat := 5000

/-- The cues the cue list holds at most (R90). -/
def maxCues : Nat := 256

/-- The entries the undo history holds at most (R108). -/
def maxHistory : Nat := 4

/-- Good frames in a row that make a bay Present (R133). -/
def joinFrames : Nat := 8

/-- Missed frames in a row that lose a Present bay (R132). -/
def missLimit : Nat := 3

/-- Good frames in a row with touch that make a touch (R73). -/
def touchFrames : Nat := 2

/-- Good frames in a row without touch that make a release (R74). -/
def releaseFrames : Nat := 3

/-- The start byte of a drive frame (section 12.7). -/
def driveStart : Byte := 0xD5

/-- The start byte of a sense frame (section 12.8). -/
def senseStart : Byte := 0xE6

/-- The tag with which a cancel removes every cue (R95). -/
def cancelAllTag : Tag := 0xFFFF

end Sys2Proof.Config
end

