-- ==== Sys2Proof/Machine/State.lean ====
section
/-! DEFINITION. The state of the part as plain data, every piece of it named by a rule of spec/, and the state right
after RESET. Sub-structures follow the blocks of 00_scope.md. -/

namespace Sys2Proof.Machine

/-- The block has no fault: it never signals a bus error and every command completes (R154). -/
inductive Fault where
  deriving DecidableEq, Repr

/-- Why a command has no meaning. -/
inductive Refusal where
  /-- Raised by a dispatch arm whose command has no meaning yet; safe, since nothing is claimed of the command. No arm
  raises it in this model. -/
  | notModelled (mnemonic : String)
  deriving DecidableEq, Repr

/-! ### Named values (section 12.5) -/

/-- A gain: Off, or a number of centidB (00_scope.md, Terms). -/
inductive Gain where
  | off
  | cdb (v : Int)
  deriving DecidableEq, Repr

/-- The class of a request, highest rank first (section 2.1). -/
inductive ReqClass where
  | recall
  | cue
  | direct
  | home
  deriving DecidableEq, Repr

/-- The mode of a fader (section 5.3). -/
inductive Mode where
  | manual
  | follow
  | latch
  deriving DecidableEq, Repr

/-- The motion state of a fader (R2). -/
inductive MotionState where
  | absent
  | unhomed
  | idle
  | waiting
  | moving
  | holding
  | homing
  | faulted
  deriving DecidableEq, Repr

/-- The touch state of a fader (R72). -/
inductive TouchState where
  | untouched
  | touched
  | releasing
  deriving DecidableEq, Repr

/-- The cause of a fader's most recent fault (R58). -/
inductive FaultCause where
  | none
  | stall
  | timedOut
  | homeDown
  | homeUp
  | homeSpan
  deriving DecidableEq, Repr

/-- The run state of the part (R36). -/
inductive RunState where
  | running
  | stopped
  deriving DecidableEq, Repr

/-- The kind of a wait-queue entry (R24). -/
inductive EntryKind where
  | move
  | home
  deriving DecidableEq, Repr

/-- The use of an occupied drive slot (R41). -/
inductive SlotUse where
  | moving
  | holding
  | homing
  deriving DecidableEq, Repr

/-- The phase of a homing (R41). -/
inductive HomingPhase where
  | down
  | up
  | park
  deriving DecidableEq, Repr

/-- The guard mode of a cue (R99). -/
inductive GuardMode where
  | always
  | noneTouched
  | anyTouched
  | allTouched
  deriving DecidableEq, Repr

/-- The kind of a meter (R124). -/
inductive MeterKind where
  | peak
  | average
  deriving DecidableEq, Repr

/-- The state of a bay (R133). -/
inductive BayState where
  | absent
  | joining
  | present
  | lost
  deriving DecidableEq, Repr

/-- The state a Joining bay came from (section 9.1). -/
inductive JoinOrigin where
  | absent
  | lost
  deriving DecidableEq, Repr

/-- The sense window of a bay's last drive frame (R131); `closed` is no window open. -/
inductive WindowState where
  | closed
  | opened
  | answered
  deriving DecidableEq, Repr

/-- How a request ended (R142). -/
inductive EndOutcome where
  | arrived
  | homed
  | touchAbandoned
  | stalled
  | timedOut
  | homeFailed
  | stopped
  | bayLost
  | supplyFault
  | inhibited
  | cancelled
  | skipped
  | dropped
  deriving DecidableEq, Repr

/-- The cause of a Skipped outcome; none for every other outcome (R142). -/
inductive SkipCause where
  | none
  | guard
  | latched
  deriving DecidableEq, Repr

/-- The reason of a refusal (R152, section 12.5). -/
inductive RefusalReason where
  | none
  | cueListFull
  | cueBadFader
  | cueBadRamp
  | cueBadGuard
  | recallBadCount
  | recallBadFader
  | recallDuplicate
  | stopped
  | historyEmpty
  | taperBadCount
  | taperBadEnds
  | taperNotIncreasing
  | scaleNotAscending
  | unknownCommand
  deriving DecidableEq, Repr

/-- The event sources of attention, numbered 3..10 (R147). -/
inductive EventSource where
  | cueException
  | stagingRefused
  | faderFault
  | meterOver
  | meterStale
  | bayJoined
  | bayLost
  | supplyFault
  deriving DecidableEq, Repr

/-! ### The fader table, calibration and touch monitor -/

/-- The late and undo marks a request carries (R24). -/
structure Marks where
  late : Bool
  undo : Bool
  deriving DecidableEq, Repr

/-- A target request (section 1.4). -/
structure Request where
  fader : FaderId
  gain : Gain
  cls : ReqClass
  tag : Tag
  ramp : Nat
  marks : Marks
  deriving DecidableEq, Repr

/-- The pending target of a fader the operator holds (R9). -/
structure PendingTarget where
  gain : Gain
  cls : ReqClass
  tag : Tag
  ramp : Nat
  marks : Marks
  deriving DecidableEq, Repr

/-- The per-fader motion setup (R56) and home drive (R60). -/
structure FaderSetup where
  deadband : Nat
  settleFrames : Nat
  slewLimit : Nat
  driveLimit : Nat
  servoGain : Nat
  homeDrive : Nat
  holdFrames : Nat
  deriving DecidableEq, Repr

/-- The calibration record of a fader (R58). -/
structure Calibration where
  low : Nat
  high : Nat
  calibrated : Bool
  latched : Bool
  cause : FaultCause
  deriving DecidableEq, Repr

/-- A fader record: the fields of R1, the touch monitor's counters (R72), the last reported gain and membership of the
moved set (R82), the setup and the calibration record. -/
structure Fader where
  targetGain : Gain
  targetPos : Nat
  pendingTarget : Option PendingTarget
  mode : Mode
  groups : BitVec 8
  latched : Bool
  inhibit : Bool
  offTarget : Bool
  rangeClamped : Bool
  roundedUp : Bool
  motion : MotionState
  touch : TouchState
  cls : ReqClass
  tag : Tag
  raw : Nat
  perMille : Nat
  stale : Bool
  touchRun : Nat
  releaseRun : Nat
  guardTimer : Nat
  lastReported : Gain
  moved : Bool
  setup : FaderSetup
  cal : Calibration
  deriving DecidableEq, Repr

/-- A point of the taper table: per-mille position and centidB gain (R10). -/
structure TaperPoint where
  pos : Nat
  gain : Int
  deriving DecidableEq, Repr

/-- The gain law in force: the taper table and the cut position (R10). -/
structure GainLaw where
  taper : List TaperPoint
  cut : Nat
  deriving DecidableEq, Repr

/-! ### The motion queue and the drive slots -/

/-- An entry of the wait queue (R24). -/
structure Entry where
  fader : FaderId
  kind : EntryKind
  cls : ReqClass
  tag : Tag
  ramp : Nat
  marks : Marks
  stamp : Nat
  deriving DecidableEq, Repr

/-- The motion queue: run state (R36), entries in queue order (R25), and the next arrival stamp. -/
structure MotionQueue where
  run : RunState
  entries : List Entry
  nextStamp : Nat
  deriving DecidableEq, Repr

/-- An occupied drive slot: the fields of R41, and those of R61 for a homing. A field that a use does not have holds 0,
and a reference or found value that is absent is none. -/
structure Slot where
  fader : FaderId
  use : SlotUse
  phase : HomingPhase
  cls : ReqClass
  tag : Tag
  marks : Marks
  ramp : Nat
  targetRaw : Nat
  setpoint : Nat
  step : Nat
  settle : Nat
  age : Nat
  stallRun : Nat
  stallRef : Option Nat
  holdTimer : Nat
  holdStamp : Nat
  drive : Int
  phaseAge : Nat
  stillRun : Nat
  stillRef : Option Nat
  foundLow : Option Nat
  foundHigh : Option Nat
  /-- The drive frames sent since a grant or a Home takeover began this use, so that the first can carry drive 0 (R44, R61):
  the model's own count (notes/assumptions/26.md). -/
  framesSent : Nat
  deriving DecidableEq, Repr

/-- The slot table: 16 slots, free or occupied (R41), the slot limit (R42) and the next hold stamp (R45). -/
structure SlotTable where
  slots : Vector (Option Slot) 16
  limit : Nat
  nextHold : Nat
  deriving DecidableEq, Repr

/-- The global motion (R56), homing (R60) and touch (R76) setup values. -/
structure MotionSetup where
  stallWindow : Nat
  stallTravel : Nat
  moveLimit : Nat
  homeLimit : Nat
  stillFrames : Nat
  stillTravel : Nat
  minSpan : Nat
  releaseGuard : Nat
  reportStep : Nat
  deriving DecidableEq, Repr

/-! ### The cue list, the recall unit and the staging copies -/

/-- A cue (R90). -/
structure Cue where
  fader : FaderId
  due : BitVec 32
  gain : Gain
  ramp : Nat
  tag : Tag
  group : BitVec 3
  guard : GuardMode
  capture : Nat
  deriving DecidableEq, Repr

/-- The cue list: surface time (R87), the cues in order of lead and capture number (R90), the next capture number and
the late limit (R96). -/
structure CueList where
  surface : BitVec 32
  cues : List Cue
  nextCapture : Nat
  lateLimit : Nat
  deriving DecidableEq, Repr

/-- One prior target of a history entry (R108). -/
structure PriorTarget where
  fader : FaderId
  gain : Gain
  deriving DecidableEq, Repr

/-- An entry of the undo history (R108). -/
structure HistoryEntry where
  number : BitVec 16
  ramp : Nat
  priors : List PriorTarget
  deriving DecidableEq, Repr

/-- The recall unit: the recall number (R107) and the undo history, most recent first (R108). -/
structure RecallUnit where
  number : BitVec 16
  history : List HistoryEntry
  deriving DecidableEq, Repr

/-- The part's copies of the staging words (R91, R104, R122, section 1.6). -/
structure Staging where
  cueTag : Word
  cueDue : Word
  cueGain : Word
  cueGuard : Word
  taperCount : Word
  taperPoints : Vector Word 16
  scale : Vector Word 32
  pairs : Vector Word 48
  deriving DecidableEq, Repr

/-! ### The meter engine -/

/-- The setup values of a meter (R124). -/
structure MeterSetup where
  kind : MeterKind
  attack : Nat
  decay : Nat
  holdFrames : Nat
  overThreshold : Int
  overCount : Nat
  intakeTimeout : Nat
  deriving DecidableEq, Repr

/-- A meter record (R114) with the meter's setup. -/
structure Meter where
  level : Int
  hold : Int
  holdTimer : Nat
  lastIntake : Int
  overRun : Nat
  overLatch : Bool
  stale : Bool
  intakeTimer : Nat
  setup : MeterSetup
  deriving DecidableEq, Repr

/-- The meter engine: 48 meters (R114) and the scale table in force (R121). -/
structure MeterEngine where
  meters : Vector Meter 48
  scale : List Int
  deriving DecidableEq, Repr

/-! ### The bay links -/

/-- The fader entry of a drive frame (section 12.7). -/
structure DriveEntry where
  enable : Bool
  drive : Int
  deriving DecidableEq, Repr

/-- The meter entry of a drive frame (section 12.7). -/
structure MeterEntry where
  lit : Nat
  hold : Nat
  overLight : Bool
  deriving DecidableEq, Repr

/-- A drive frame before its bytes are laid out (R130). -/
structure DriveFrame where
  seq : Byte
  faders : Vector DriveEntry 8
  meters : Vector MeterEntry 8
  deriving DecidableEq, Repr

/-- A bay record (section 9.1), with the last drive frame sent on its link (R130). -/
structure Bay where
  state : BayState
  origin : JoinOrigin
  joinRun : Nat
  missRun : Nat
  seq : Byte
  window : WindowState
  fitted : BitVec 8
  supplyFault : Bool
  supplyGood : Bool
  sent : Option DriveFrame
  deriving DecidableEq, Repr

/-! ### Completions, attention and the bus path -/

/-- A completion record (R142), with the opened mark that only the head may carry (R144). -/
structure Completion where
  fader : FaderId
  outcome : EndOutcome
  cause : SkipCause
  cls : ReqClass
  tag : Tag
  marks : Marks
  repeated : Bool
  final : Nat
  opened : Bool
  deriving DecidableEq, Repr

/-- The pending flags of the event sources (R148). -/
structure EventFlags where
  cueException : Bool
  stagingRefused : Bool
  faderFault : Bool
  meterOver : Bool
  meterStale : Bool
  bayJoined : Bool
  bayLost : Bool
  supplyFault : Bool
  deriving DecidableEq, Repr

/-- The attention controller: the levels of sources 1..8 (R147), threshold and quiet frames left (R149), pending event
flags (R148), last refusal (R152) and the ATTN line (R150). -/
structure Attention where
  levels : Vector Nat 8
  threshold : Nat
  quiet : Nat
  events : EventFlags
  lastRefusal : RefusalReason
  line : Bool
  deriving DecidableEq, Repr

/-- The record snapshot (R22): copies of one fader's live words. -/
structure Snapshot where
  fader : FaderId
  position : Word
  state : Word
  pendingA : Word
  pendingB : Word
  targetPosition : Word
  calibration : Word
  tag : Word
  deriving DecidableEq, Repr

/-- The bus path: whether RESET is asserted (R154), the strap setting in force (R154), the record snapshot (R22), and
the data the last read command returned on the bus (R159). -/
structure BusPath where
  inReset : Bool
  imageSel : BitVec 4
  snapshot : Option Snapshot
  readData : Lanes
  deriving DecidableEq, Repr

/-- How far the advance of the coming frame expiry is taken: not yet; taken, with cues due at it that are still to fire; or whole
(R87, R97). -/
inductive AdvanceStage where
  | coming
  | firing
  | taken
  deriving DecidableEq, Repr

/-- What the rows that name a part of a frame expiry have taken of the coming one, so that FRAME_EXPIRY takes the rest and
nothing twice. These are the model's own fields, not the spec's (notes/assumptions/1.md). -/
structure EarlyShare where
  /-- How far the advance of surface time, with the cues that it fires, is taken (R87, R97). -/
  advance : AdvanceStage
  /-- The quiet interval has counted the coming expiry (R149). -/
  quiet : Bool
  /-- The meters that have taken the coming expiry (R119). -/
  meters : Vector Bool 48
  /-- The slots that have counted the coming expiry (R54, R55, R65, R68). -/
  slots : Vector Bool 16
  deriving DecidableEq, Repr

/-- The memory behind the part: (byte address, byte) pairs with addresses strictly rising (R154, R160). -/
abbrev Memory := List Host.Cell

/-- The state of the part and of the memory behind it, and the queue of the commands that wait. -/
structure State where
  bus : BusPath
  mem : Memory
  staging : Staging
  law : GainLaw
  faders : Vector Fader 48
  queue : MotionQueue
  table : SlotTable
  setup : MotionSetup
  cues : CueList
  recalls : RecallUnit
  engine : MeterEngine
  bays : Vector Bay 6
  completions : List Completion
  attn : Attention
  early : EarlyShare
  pending : List Instr
  deriving DecidableEq, Repr

/-! ### The state after RESET -/

/-- No mark set. -/
def Marks.clear : Marks := ⟨false, false⟩

/-- The defaults of the per-fader setup (R56, R60). -/
def FaderSetup.default : FaderSetup :=
  { deadband := 6, settleFrames := 3, slewLimit := 40, driveLimit := 100, servoGain := 12, homeDrive := 60,
    holdFrames := 200 }

/-- A calibration record after RESET (R58). -/
def Calibration.reset : Calibration :=
  { low := 0, high := 4095, calibrated := false, latched := false, cause := .none }

/-- A fader record after RESET (R1, R72, R84). The last reported gain has no RESET value in the spec; it is Off here
(notes/assumptions/4.md). -/
def Fader.reset : Fader :=
  { targetGain := .off, targetPos := 0, pendingTarget := none, mode := .manual, groups := 0, latched := false,
    inhibit := false, offTarget := false, rangeClamped := false, roundedUp := false, motion := .absent,
    touch := .untouched, cls := .direct, tag := 0, raw := 0, perMille := 0, stale := true, touchRun := 0,
    releaseRun := 0, guardTimer := 0, lastReported := .off, moved := false, setup := FaderSetup.default,
    cal := Calibration.reset }

/-- The defaults of a meter's setup (R124). -/
def MeterSetup.default : MeterSetup :=
  { kind := .peak, attack := 12, decay := 1, holdFrames := 1500, overThreshold := 1800, overCount := 3,
    intakeTimeout := 100 }

/-- A meter record after RESET (R114). -/
def Meter.reset : Meter :=
  { level := -6000, hold := -6000, holdTimer := 0, lastIntake := -6000, overRun := 0, overLatch := false,
    stale := false, intakeTimer := 0, setup := MeterSetup.default }

/-- A bay record after RESET (R141). The sequence number stands one before 0, so that the first drive frame carries
0 (R131). -/
def Bay.reset : Bay :=
  { state := .absent, origin := .absent, joinRun := 0, missRun := 0, seq := 0xFF, window := .closed, fitted := 0,
    supplyFault := false, supplyGood := true, sent := none }

/-- No event source pending. -/
def EventFlags.clear : EventFlags :=
  { cueException := false, stagingRefused := false, faderFault := false, meterOver := false, meterStale := false,
    bayJoined := false, bayLost := false, supplyFault := false }

/-- The staging copies after RESET: 0 in every lane (R91, R104, R122, R160). -/
def Staging.reset : Staging :=
  { cueTag := 0, cueDue := 0, cueGain := 0, cueGuard := 0, taperCount := 0, taperPoints := Vector.replicate 16 0,
    scale := Vector.replicate 32 0, pairs := Vector.replicate 48 0 }

/-- No lane of data. -/
def noData : Lanes := ⟨none, none, none, none⟩

/-- The bus path while RESET is asserted, before a release has sampled the straps (R154). -/
def BusPath.reset : BusPath :=
  { inReset := true, imageSel := 0, snapshot := none, readData := noData }

/-- The attention controller after RESET (R153). -/
def Attention.reset : Attention :=
  { levels := Vector.replicate 8 3, threshold := 0, quiet := 0, events := EventFlags.clear, lastRefusal := .none,
    line := false }

/-- The global motion, homing and touch setup after RESET (R56, R60, R76). -/
def MotionSetup.default : MotionSetup :=
  { stallWindow := 40, stallTravel := 8, moveLimit := 2000, homeLimit := 1500, stillFrames := 20, stillTravel := 2,
    minSpan := 2000, releaseGuard := 150, reportStep := 5 }

/-- Nothing taken of the coming frame expiry. -/
def EarlyShare.none : EarlyShare :=
  { advance := .coming, quiet := false, meters := Vector.replicate 48 false, slots := Vector.replicate 16 false }

/-- The machine right after RESET is asserted: every block at its RESET values (R1, R40, R57, R103, R113, R129, R141,
R153), the reset input still asserted until RESET_RELEASE, memory with nothing listed and no command waiting. -/
def State.reset : State :=
  { bus := BusPath.reset
    mem := []
    staging := Staging.reset
    law := { taper := Config.defaultTaper.map fun p => ⟨p.1, p.2⟩, cut := 5 }
    faders := Vector.replicate 48 Fader.reset
    queue := { run := .running, entries := [], nextStamp := 0 }
    table := { slots := Vector.replicate 16 none, limit := 16, nextHold := 0 }
    setup := MotionSetup.default
    cues := { surface := 0, cues := [], nextCapture := 0, lateLimit := 500 }
    recalls := { number := 0, history := [] }
    engine := { meters := Vector.replicate 48 Meter.reset, scale := Config.defaultScale }
    bays := Vector.replicate 6 Bay.reset
    completions := []
    attn := Attention.reset
    early := EarlyShare.none
    pending := [] }

end Sys2Proof.Machine
end

