-- ==== Sys2Proof/Machine/GainLaw.lean ====
section
/-! DEFINITION. The gain law: forward conversion (R11), inverse conversion (R12) and the raw mapping through a
calibration (R13). -/

namespace Sys2Proof.Machine

/-- The quotient num / den rounded to the nearest integer, an exact half upward, for den above 0 (R11, R12, R13). -/
def roundHalfUp (num den : Int) : Int :=
  (2 * num + den) / (2 * den)

/-- The first gain of a taper table (R10). -/
def floorGain (t : List TaperPoint) : Int :=
  match t with
  | [] => 0
  | p :: _ => p.gain

/-- The last gain of a taper table (R10). -/
def ceilingGain (t : List TaperPoint) : Int :=
  match t with
  | [] => 0
  | [p] => p.gain
  | _ :: q :: rest => ceilingGain (q :: rest)

/-- The segment of a gain: the ends of the lowest segment whose upper gain is at or above it (R11, step 2). -/
def gainSegment (t : List TaperPoint) (g : Int) : Option (TaperPoint × TaperPoint) :=
  match t with
  | p :: q :: rest => if g ≤ q.gain then some (p, q) else gainSegment (q :: rest) g
  | _ => none

/-- The segment of a position: the ends of the lowest segment whose upper position is at or above it (R12,
step 1). -/
def posSegment (t : List TaperPoint) (pos : Nat) : Option (TaperPoint × TaperPoint) :=
  match t with
  | p :: q :: rest => if pos ≤ q.pos then some (p, q) else posSegment (q :: rest) pos
  | _ => none

/-- What the forward conversion makes of a gain (R11). -/
structure Conversion where
  accepted : Gain
  pos : Nat
  clamped : Bool
  roundedUp : Bool
  deriving DecidableEq, Repr

/-- The forward conversion of a requested gain under a taper table (R11). -/
def convertGain (t : List TaperPoint) (g : Gain) : Conversion :=
  match g with
  | .off => ⟨.off, 0, false, false⟩
  | .cdb v =>
    let a := max (floorGain t) (min (ceilingGain t) v)
    match gainSegment t a with
    | none => ⟨.cdb a, 0, a != v, false⟩
    | some (p, q) =>
      let num := (a - p.gain) * ((q.pos : Int) - p.pos)
      let den := q.gain - p.gain
      let added := roundHalfUp num den
      ⟨.cdb a, (p.pos + added).toNat, a != v, decide (num < added * den)⟩

/-- The inverse conversion of a per-mille position under a gain law (R12). -/
def gainOfPerMille (law : GainLaw) (pos : Nat) : Gain :=
  if pos < law.cut then .off
  else
    match posSegment law.taper pos with
    | none => .cdb (ceilingGain law.taper)
    | some (p, q) => .cdb (p.gain + roundHalfUp (((pos : Int) - p.pos) * (q.gain - p.gain)) ((q.pos : Int) - p.pos))

/-- The raw position of a per-mille position under the ends of a calibration (R13). -/
def rawOfPerMille (low high pos : Nat) : Nat :=
  ((low : Int) + roundHalfUp ((pos : Int) * ((high : Int) - low)) 1000).toNat

/-- The per-mille position of a raw reading under the ends of a calibration (R13). -/
def perMilleOfRaw (low high raw : Nat) : Nat :=
  (max 0 (min 1000 (roundHalfUp (((raw : Int) - low) * 1000) ((high : Int) - low)))).toNat

/-- Whether a table meets the conditions of a taper table in force (R10). -/
def taperOk (t : List TaperPoint) : Bool :=
  decide (2 ≤ t.length) && decide (t.length ≤ 16) && (t.head?.map TaperPoint.pos == some 0)
    && (t.getLast?.map TaperPoint.pos == some 1000)
    && decide (t.Pairwise fun p q => p.pos < q.pos ∧ p.gain < q.gain)
    && t.all fun p => decide (Config.gainMin ≤ p.gain) && decide (p.gain ≤ Config.gainMax)

end Sys2Proof.Machine
end

