-- ==== Sys2Proof/Machine/Operands.lean ====
section
/-! DEFINITION. Operand forms: byte lanes and their merging (R156, R157), bit fields of a word (chapter 12), gain and
level fields, the codes of section 12.5, and the encoding of every word that the part both takes and returns. -/

namespace Sys2Proof

/-- The word whose byte lanes are given, lane 0 lowest (00_scope.md, Conventions: word order). -/
def wordOfBytes (b0 b1 b2 b3 : Byte) : Word :=
  b3 ++ (b2 ++ (b1 ++ b0))

/-- Byte lane `k` of a word. -/
def laneOf (v : Word) (k : Nat) : Byte :=
  v.extractLsb' (8 * k) 8

/-- R156, step 1: the written lanes put together with the current value of the word for the lanes left unwritten. -/
def Lanes.merge (w : Lanes) (old : Word) : Word :=
  wordOfBytes (w.lane0.getD (laneOf old 0)) (w.lane1.getD (laneOf old 1)) (w.lane2.getD (laneOf old 2))
    (w.lane3.getD (laneOf old 3))

/-- R157 and R158: the written lanes with every unwritten lane counted as 0. -/
def Lanes.zeroFilled (w : Lanes) : Word :=
  w.merge 0

/-- A write, or returned data, of all four lanes (R156, step 3; R159). -/
def Lanes.full (v : Word) : Lanes :=
  ⟨some (laneOf v 0), some (laneOf v 1), some (laneOf v 2), some (laneOf v 3)⟩

/-- The lanes of a write to a command word with `code` in lane 0. Sections 12.2 and 12.3 give every command word its code in
bits 0..7 but for the run control word, which has no row there; it is read as they are, its other bits reserved
(notes/assumptions/28.md). -/
def UpperLanes.withCode (u : UpperLanes) (code : Byte) : Lanes :=
  ⟨some code, u.lane1, u.lane2, u.lane3⟩

/-- The unsigned field of `len` bits that starts at bit `start` of a word. -/
def fieldNat (v : Word) (start len : Nat) : Nat :=
  (v.extractLsb' start len).toNat

/-- The two's complement field of 16 bits that starts at bit `start` (chapter 12: gain, level and drive fields). -/
def fieldInt (v : Word) (start : Nat) : Int :=
  (v.extractLsb' start 16).toInt

/-- Whether bit `k` of a word is set. -/
def fieldFlag (v : Word) (k : Nat) : Bool :=
  v.getLsbD k

/-- A word that holds `n` in the field of `len` bits from bit `start`, and 0 elsewhere. -/
def putNat (start len n : Nat) : Word :=
  (BitVec.ofNat len n).setWidth 32 <<< start

/-- A word that holds `z` in two's complement in the field of `len` bits from bit `start`, and 0 elsewhere. -/
def putInt (start len : Nat) (z : Int) : Word :=
  (BitVec.ofInt len z).setWidth 32 <<< start

/-- A word that holds the flag `b` at bit `k`, and 0 elsewhere. -/
def putFlag (k : Nat) (b : Bool) : Word :=
  putNat k 1 b.toNat

/-- Brings an unsigned setting to the nearer end of its range (R161). -/
def clampNat (lo hi n : Nat) : Nat :=
  max lo (min hi n)

/-- Brings a signed setting to the nearer end of its range (R161). -/
def clampInt (lo hi z : Int) : Int :=
  max lo (min hi z)

end Sys2Proof

namespace Sys2Proof.Machine

/-! ### Gains and levels -/

/-- The code of a gain in a 16-bit field: -32768 is Off (section 12.2). -/
def Gain.code : Gain → Int
  | .off => -32768
  | .cdb v => v

/-- The gain that a 16-bit field's number stands for (section 12.2). -/
def Gain.ofCode (z : Int) : Gain :=
  if z = -32768 then .off else .cdb z

/-! ### Codes (section 12.5) -/

def ReqClass.code : ReqClass → Nat
  | .recall => 0
  | .cue => 1
  | .direct => 2
  | .home => 3

def Mode.code : Mode → Nat
  | .manual => 0
  | .follow => 1
  | .latch => 2

/-- A mode field: code 3 is taken as Manual (R7, R162). -/
def Mode.ofCode (n : Nat) : Mode :=
  if n = 1 then .follow else if n = 2 then .latch else .manual

def MotionState.code : MotionState → Nat
  | .absent => 0
  | .unhomed => 1
  | .idle => 2
  | .waiting => 3
  | .moving => 4
  | .holding => 5
  | .homing => 6
  | .faulted => 7

def TouchState.code : TouchState → Nat
  | .untouched => 0
  | .touched => 1
  | .releasing => 2

def FaultCause.code : FaultCause → Nat
  | .none => 0
  | .stall => 1
  | .timedOut => 2
  | .homeDown => 3
  | .homeUp => 4
  | .homeSpan => 5

def RunState.code : RunState → Nat
  | .running => 0
  | .stopped => 1

def EntryKind.code : EntryKind → Nat
  | .move => 0
  | .home => 1

def SlotUse.code : SlotUse → Nat
  | .moving => 0
  | .holding => 1
  | .homing => 2

def HomingPhase.code : HomingPhase → Nat
  | .down => 0
  | .up => 1
  | .park => 2

/-- A guard mode field; none for a code its table does not list (R93). -/
def GuardMode.ofCode (n : Nat) : Option GuardMode :=
  match n with
  | 0 => some .always
  | 1 => some .noneTouched
  | 2 => some .anyTouched
  | 3 => some .allTouched
  | _ => none

def MeterKind.code : MeterKind → Nat
  | .peak => 0
  | .average => 1

/-- A meter kind field: a code that is neither is taken as Peak (R124, R162). -/
def MeterKind.ofCode (n : Nat) : MeterKind :=
  if n = 1 then .average else .peak

def BayState.code : BayState → Nat
  | .absent => 0
  | .joining => 1
  | .present => 2
  | .lost => 3

def EndOutcome.code : EndOutcome → Nat
  | .arrived => 1
  | .homed => 2
  | .touchAbandoned => 3
  | .stalled => 4
  | .timedOut => 5
  | .homeFailed => 6
  | .stopped => 7
  | .bayLost => 8
  | .supplyFault => 9
  | .inhibited => 10
  | .cancelled => 11
  | .skipped => 12
  | .dropped => 13

def SkipCause.code : SkipCause → Nat
  | .none => 0
  | .guard => 1
  | .latched => 2

def RefusalReason.code : RefusalReason → Nat
  | .none => 0
  | .cueListFull => 1
  | .cueBadFader => 2
  | .cueBadRamp => 3
  | .cueBadGuard => 4
  | .recallBadCount => 5
  | .recallBadFader => 6
  | .recallDuplicate => 7
  | .stopped => 8
  | .historyEmpty => 9
  | .taperBadCount => 10
  | .taperBadEnds => 11
  | .taperNotIncreasing => 12
  | .scaleNotAscending => 13
  | .unknownCommand => 14

/-- The number of an event source (R147). -/
def EventSource.number : EventSource → Nat
  | .cueException => 3
  | .stagingRefused => 4
  | .faderFault => 5
  | .meterOver => 6
  | .meterStale => 7
  | .bayJoined => 8
  | .bayLost => 9
  | .supplyFault => 10

/-- The event source of a number, none for the condition sources and for numbers that name no source (R148). -/
def EventSource.ofNumber (n : Nat) : Option EventSource :=
  match n with
  | 3 => some .cueException
  | 4 => some .stagingRefused
  | 5 => some .faderFault
  | 6 => some .meterOver
  | 7 => some .meterStale
  | 8 => some .bayJoined
  | 9 => some .bayLost
  | 10 => some .supplyFault
  | _ => none

/-! ### The control word (section 12.2) -/

/-- The fields of a fader control word (R7). -/
structure ControlFields where
  mode : Mode
  groups : BitVec 8
  latched : Bool
  inhibit : Bool
  deriving DecidableEq, Repr

/-- The control word's fields in force for a fader. -/
def Fader.control (x : Fader) : ControlFields :=
  ⟨x.mode, x.groups, x.latched, x.inhibit⟩

/-- The control word that holds the fields; reserved bits read 0 (R161). -/
def ControlFields.toWord (c : ControlFields) : Word :=
  putNat 0 2 c.mode.code ||| putNat 8 8 c.groups.toNat ||| putFlag 16 c.latched ||| putFlag 17 c.inhibit

/-- The fields a written control word is taken as: mode code 3 is Manual (R7). -/
def ControlFields.ofWord (v : Word) : ControlFields :=
  ⟨Mode.ofCode (fieldNat v 0 2), v.extractLsb' 8 8, fieldFlag v 16, fieldFlag v 17⟩

/-- The result of an alias write on the control word in force (R158). -/
def aliasResult (k : AliasKind) (operand current : Word) : Word :=
  match k with
  | .set => current ||| operand
  | .clear => current &&& ~~~operand
  | .toggle => current ^^^ operand

/-! ### Setup words (section 12.2, 12.3 and 12.4): the word that holds the values in force, and the values a written
word is taken as, each field brought to the nearer end of its range -/

/-- Setup word A of a fader (R56). -/
def FaderSetup.wordA (x : FaderSetup) : Word :=
  putNat 0 8 x.deadband ||| putNat 8 8 x.settleFrames ||| putNat 16 9 x.slewLimit ||| putNat 25 7 x.driveLimit

/-- Takes a written setup word A of a fader (R56). The drive limit is a magnitude, read unsigned
(notes/assumptions/29.md). -/
def FaderSetup.takeA (x : FaderSetup) (v : Word) : FaderSetup :=
  { x with
    deadband := clampNat 0 64 (fieldNat v 0 8)
    settleFrames := clampNat 1 50 (fieldNat v 8 8)
    slewLimit := clampNat 1 400 (fieldNat v 16 9)
    driveLimit := clampNat 1 127 (fieldNat v 25 7) }

/-- Setup word B of a fader (R56, R60). -/
def FaderSetup.wordB (x : FaderSetup) : Word :=
  putNat 0 8 x.servoGain ||| putNat 8 8 x.homeDrive ||| putNat 16 16 x.holdFrames

/-- Takes a written setup word B of a fader (R56, R60). Home drive is a magnitude, read unsigned: a field of 0x80 or more is
brought to 127 (notes/assumptions/29.md). -/
def FaderSetup.takeB (x : FaderSetup) (v : Word) : FaderSetup :=
  { x with
    servoGain := clampNat 1 64 (fieldNat v 0 8)
    homeDrive := clampNat 10 127 (fieldNat v 8 8)
    holdFrames := clampNat 0 10000 (fieldNat v 16 16) }

/-- Setup word A of a meter (R124). -/
def MeterSetup.wordA (x : MeterSetup) : Word :=
  putNat 0 8 x.kind.code ||| putNat 8 8 x.attack ||| putNat 16 8 x.overCount

/-- Takes a written setup word A of a meter (R124). -/
def MeterSetup.takeA (x : MeterSetup) (v : Word) : MeterSetup :=
  { x with
    kind := MeterKind.ofCode (fieldNat v 0 8)
    attack := clampNat 1 16 (fieldNat v 8 8)
    overCount := clampNat 1 8 (fieldNat v 16 8) }

/-- Setup word B of a meter (R124). -/
def MeterSetup.wordB (x : MeterSetup) : Word :=
  putNat 0 16 x.decay ||| putNat 16 16 x.holdFrames

/-- Takes a written setup word B of a meter (R124). -/
def MeterSetup.takeB (x : MeterSetup) (v : Word) : MeterSetup :=
  { x with
    decay := clampNat 0 2000 (fieldNat v 0 16)
    holdFrames := clampNat 0 10000 (fieldNat v 16 16) }

/-- Setup word C of a meter (R124). -/
def MeterSetup.wordC (x : MeterSetup) : Word :=
  putInt 0 16 x.overThreshold ||| putNat 16 16 x.intakeTimeout

/-- Takes a written setup word C of a meter (R124). -/
def MeterSetup.takeC (x : MeterSetup) (v : Word) : MeterSetup :=
  { x with
    overThreshold := clampInt Config.levelMin Config.levelMax (fieldInt v 0)
    intakeTimeout := clampNat 0 1000 (fieldNat v 16 16) }

/-- The stall setup word (R56). -/
def MotionSetup.stallWord (x : MotionSetup) : Word :=
  putNat 0 8 x.stallWindow ||| putNat 16 9 x.stallTravel

/-- Takes a written stall setup word (R56). -/
def MotionSetup.takeStall (x : MotionSetup) (v : Word) : MotionSetup :=
  { x with
    stallWindow := clampNat 2 250 (fieldNat v 0 8)
    stallTravel := clampNat 0 400 (fieldNat v 16 9) }

/-- The move limit word (R56). -/
def MotionSetup.moveLimitWord (x : MotionSetup) : Word :=
  putNat 0 16 x.moveLimit

/-- Takes a written move limit word (R56). -/
def MotionSetup.takeMoveLimit (x : MotionSetup) (v : Word) : MotionSetup :=
  { x with moveLimit := clampNat 10 60000 (fieldNat v 0 16) }

/-- Homing setup word A (R60). -/
def MotionSetup.homingWordA (x : MotionSetup) : Word :=
  putNat 0 16 x.homeLimit ||| putNat 16 8 x.stillFrames

/-- Takes a written homing setup word A (R60). -/
def MotionSetup.takeHomingA (x : MotionSetup) (v : Word) : MotionSetup :=
  { x with
    homeLimit := clampNat 50 60000 (fieldNat v 0 16)
    stillFrames := clampNat 2 250 (fieldNat v 16 8) }

/-- Homing setup word B (R60). -/
def MotionSetup.homingWordB (x : MotionSetup) : Word :=
  putNat 0 9 x.stillTravel ||| putNat 16 12 x.minSpan

/-- Takes a written homing setup word B (R60). -/
def MotionSetup.takeHomingB (x : MotionSetup) (v : Word) : MotionSetup :=
  { x with
    stillTravel := clampNat 1 400 (fieldNat v 0 9)
    minSpan := clampNat 16 4095 (fieldNat v 16 12) }

/-- The touch setup word (R76). -/
def MotionSetup.touchWord (x : MotionSetup) : Word :=
  putNat 0 14 x.releaseGuard ||| putNat 16 11 x.reportStep

/-- Takes a written touch setup word (R76). -/
def MotionSetup.takeTouch (x : MotionSetup) (v : Word) : MotionSetup :=
  { x with
    releaseGuard := clampNat 0 10000 (fieldNat v 0 14)
    reportStep := clampNat 1 2000 (fieldNat v 16 11) }

/-- The first attention level word: source n = 1..8 at bits 4 * (n - 1) onward (R147, section 12.3). -/
def levelsWord (levels : Vector Nat 8) : Word :=
  (List.finRange 8).foldl (fun acc i => acc ||| putNat (4 * i.val) 4 levels[i]) 0

/-- Takes a written first attention level word: a level above 7 is brought to 7 (R147). -/
def takeLevels (v : Word) : Vector Nat 8 :=
  Vector.ofFn fun i => clampNat 0 7 (fieldNat v (4 * i.val) 4)

/-- The second attention level word: sources 9 and 10 read 8 and 9 whatever is written (R147). -/
def hardLevelsWord : Word :=
  putNat 0 4 8 ||| putNat 4 4 9

/-- The level a written intake word is taken as: the silence code and every value below -60.00 dB are -60.00 dB, and a
value above +20.00 dB is +20.00 dB (R115). -/
def takeLevel (v : Word) : Int :=
  clampInt Config.levelMin Config.levelMax (fieldInt v 0)

end Sys2Proof.Machine
end

