-- ==== Sys2Proof/Machine/Ops.lean ====
section
/-! DEFINITION. The named operations over memory, fader records, drive slots, the wait queue, completions and attention
events that the meanings of all families share. -/

namespace Sys2Proof.Machine

/-! ### Memory behind the part -/

/-- Writes one byte, keeping the addresses strictly rising. -/
def Memory.write (m : Memory) (a : Nat) (b : Byte) : Memory :=
  match m with
  | [] => [(a, b)]
  | c :: rest =>
    if a < c.1 then (a, b) :: c :: rest
    else if a = c.1 then (a, b) :: rest
    else c :: Memory.write rest a b

/-- Reads one byte; none for a byte that no bus access has written (notes/assumptions/3.md). -/
def Memory.read (m : Memory) (a : Nat) : Option Byte :=
  match m with
  | [] => none
  | c :: rest => if c.1 = a then some c.2 else Memory.read rest a

/-- The canonical form of a memory: addresses strictly rising. -/
abbrev Memory.wf (m : Memory) : Prop :=
  m.Pairwise fun c d => c.1 < d.1

/-- Writes the byte of one lane, when the lane is written. -/
def Memory.writeLane (m : Memory) (a : Nat) (b : Option Byte) : Memory :=
  match b with
  | none => m
  | some x => Memory.write m a x

/-- Writes the written lanes of an access to the word at byte address `a`, lane k at a + k (R156). -/
def Memory.writeLanes (m : Memory) (a : Nat) (w : Lanes) : Memory :=
  Memory.writeLane (Memory.writeLane (Memory.writeLane (Memory.writeLane m a w.lane0) (a + 1) w.lane1) (a + 2) w.lane2)
    (a + 3) w.lane3

/-- What memory holds in the lanes of the word at byte address `a`. -/
def Memory.readLanes (m : Memory) (a : Nat) : Lanes :=
  ⟨Memory.read m a, Memory.read m (a + 1), Memory.read m (a + 2), Memory.read m (a + 3)⟩

/-- A write that reaches memory on the given lanes. -/
def State.store (s : State) (a : Nat) (w : Lanes) : State :=
  { s with mem := Memory.writeLanes s.mem a w }

/-! ### Fader records, slots, meters and bays -/

/-- A fader's record. -/
def State.fader (s : State) (f : FaderId) : Fader :=
  s.faders[f]

/-- Replaces a fader's record. -/
def State.setFader (s : State) (f : FaderId) (x : Fader) : State :=
  { s with faders := s.faders.set f x }

/-- Changes a fader's record. -/
def State.modFader (s : State) (f : FaderId) (g : Fader → Fader) : State :=
  s.setFader f (g (s.fader f))

/-- Changes every fader's record. -/
def State.mapFaders (s : State) (g : FaderId → Fader → Fader) : State :=
  { s with faders := Vector.ofFn fun f => g f s.faders[f] }

/-- A drive slot: none while it is free (R41). -/
def State.slot (s : State) (i : SlotId) : Option Slot :=
  s.table.slots[i]

/-- Fills or frees a drive slot. -/
def State.setSlot (s : State) (i : SlotId) (o : Option Slot) : State :=
  { s with table := { s.table with slots := s.table.slots.set i o } }

/-- Changes every occupied slot. -/
def State.mapSlots (s : State) (g : Slot → Slot) : State :=
  { s with table := { s.table with slots := Vector.ofFn fun i => (s.table.slots[i]).map g } }

/-- A meter's record. -/
def State.meter (s : State) (m : MeterId) : Meter :=
  s.engine.meters[m]

/-- Replaces a meter's record. -/
def State.setMeter (s : State) (m : MeterId) (x : Meter) : State :=
  { s with engine := { s.engine with meters := s.engine.meters.set m x } }

/-- A bay's record. -/
def State.bay (s : State) (b : BayId) : Bay :=
  s.bays[b]

/-- Replaces a bay's record. -/
def State.setBay (s : State) (b : BayId) (x : Bay) : State :=
  { s with bays := s.bays.set b x }

/-- Changes a bay's record. -/
def State.modBay (s : State) (b : BayId) (g : Bay → Bay) : State :=
  s.setBay b (g (s.bay b))

/-- The bay of a fader: strip n sits on bay n div 8 (00_scope.md, Terms: bay). -/
def bayOf (f : FaderId) : BayId :=
  ⟨f.val / 8, by omega⟩

/-- The position of a fader on its bay: n mod 8 (00_scope.md, Terms: bay). -/
def positionOf (f : FaderId) : Position :=
  ⟨f.val % 8, by omega⟩

/-- The fader at a position of a bay. -/
def faderAt (b : BayId) (p : Position) : FaderId :=
  ⟨8 * b.val + p.val, by omega⟩

/-- Whether a bay reports a position fitted (section 9.1: the fitted mask). -/
def Bay.fits (x : Bay) (p : Position) : Bool :=
  x.fitted.getLsbD p.val

/-- The slot that a fader occupies, with its number (R41: a fader is in at most one). -/
def State.slotFor (s : State) (f : FaderId) : Option (SlotId × Slot) :=
  (List.finRange 16).findSome? fun i =>
    match s.slot i with
    | some sl => if sl.fader = f then some (i, sl) else none
    | none => none

/-- The occupied count (R41). -/
def State.occupied (s : State) : Nat :=
  (List.finRange 16).countP fun i => (s.slot i).isSome

/-- The lowest-numbered free slot (R43). -/
def State.freeSlot? (s : State) : Option SlotId :=
  (List.finRange 16).find? fun i => (s.slot i).isNone

/-- The Holding slot with the older hold stamp of two candidates (R45). -/
def State.olderHold (s : State) (best : Option (SlotId × Nat)) (i : SlotId) : Option (SlotId × Nat) :=
  match s.slot i with
  | none => best
  | some sl =>
    if sl.use = .holding then
      match best with
      | none => some (i, sl.holdStamp)
      | some (j, stamp) => if sl.holdStamp < stamp then some (i, sl.holdStamp) else some (j, stamp)
    else best

/-- The Holding slot with the oldest hold stamp (R45). -/
def State.oldestHold? (s : State) : Option SlotId :=
  ((List.finRange 16).foldl s.olderHold none).map Prod.fst

/-! ### Gains, positions and motion states of a fader -/

/-- The present gain of a fader: computed, never stored (R1, R4). -/
def State.presentGain (s : State) (f : FaderId) : Gain :=
  gainOfPerMille s.law (s.fader f).perMille

/-- The calibration in force for a fader: the pair found by its homing while that homing is in Park, else the record's
(R58). -/
def State.calInForce (s : State) (f : FaderId) : Nat × Nat :=
  let c := (s.fader f).cal
  match s.slotFor f with
  | none => (c.low, c.high)
  | some (_, sl) =>
    if sl.use = .homing ∧ sl.phase = .park then (sl.foundLow.getD c.low, sl.foundHigh.getD c.high) else (c.low, c.high)

/-- Recomputes the present per-mille under the calibration in force (R3, R58). -/
def State.refreshPerMille (s : State) (f : FaderId) : State :=
  let c := s.calInForce f
  s.modFader f fun x => { x with perMille := perMilleOfRaw c.1 c.2 x.raw }

/-- The motion state from the calibration record (R58). -/
def Calibration.motion (c : Calibration) : MotionState :=
  if c.latched then .faulted else if c.calibrated then .idle else .unhomed

/-- A fader whose target is taken from where it stands: target gain and position the present ones, off-target clear
(R16, R23, R80). Below the cut the target gain is then Off with the position where the fader stands, not 0; a homing parks
it at 0 all the same (Fader.parkPos, notes/assumptions/30.md). -/
def State.targetFromPresent (s : State) (f : FaderId) : State :=
  let g := s.presentGain f
  s.modFader f fun x => { x with targetGain := g, targetPos := x.perMille, offTarget := false }

/-! ### Events, refusals and completions -/

/-- Sets or clears an event source's pending flag (R148). -/
def EventFlags.set (e : EventFlags) (src : EventSource) (b : Bool) : EventFlags :=
  match src with
  | .cueException => { e with cueException := b }
  | .stagingRefused => { e with stagingRefused := b }
  | .faderFault => { e with faderFault := b }
  | .meterOver => { e with meterOver := b }
  | .meterStale => { e with meterStale := b }
  | .bayJoined => { e with bayJoined := b }
  | .bayLost => { e with bayLost := b }
  | .supplyFault => { e with supplyFault := b }

/-- An event source's pending flag (R148). -/
def EventFlags.get (e : EventFlags) (src : EventSource) : Bool :=
  match src with
  | .cueException => e.cueException
  | .stagingRefused => e.stagingRefused
  | .faderFault => e.faderFault
  | .meterOver => e.meterOver
  | .meterStale => e.meterStale
  | .bayJoined => e.bayJoined
  | .bayLost => e.bayLost
  | .supplyFault => e.supplyFault

/-- Raises an event (R148). -/
def State.raise (s : State) (src : EventSource) : State :=
  { s with attn := { s.attn with events := s.attn.events.set src true } }

/-- Makes a refusal: the last refusal word takes the reason and STAGING_REFUSED is raised (R152). -/
def State.refuse (s : State) (r : RefusalReason) : State :=
  { s with attn := { s.attn with lastRefusal := r, events := s.attn.events.set .stagingRefused true } }

/-- Writes a completion into the queue's records: in place for a fader that has one, with the repeated mark and no
opened mark, else as a new record at the tail (R143). -/
def writeRecord (c : Completion) (q : List Completion) : List Completion :=
  match q with
  | [] => [c]
  | x :: rest =>
    if x.fader = c.fader then { c with repeated := true, opened := false } :: rest else x :: writeRecord c rest

/-- Writes a completion for a fader, with its present per-mille as final position (R142, R143). -/
def State.complete (s : State) (f : FaderId) (o : EndOutcome) (cause : SkipCause) (cls : ReqClass) (tag : Tag)
    (marks : Marks) : State :=
  let c : Completion :=
    { fader := f, outcome := o, cause := cause, cls := cls, tag := tag, marks := marks, repeated := false,
      final := (s.fader f).perMille, opened := false }
  { s with completions := writeRecord c s.completions }

/-! ### The wait queue -/

/-- The rank of a class, Recall first (section 2.1). -/
def ReqClass.rank (c : ReqClass) : Nat :=
  c.code

/-- The higher-ranked of two classes (R27). -/
def ReqClass.higher (a b : ReqClass) : ReqClass :=
  if b.rank < a.rank then b else a

/-- Whether an entry stands ahead of another: a higher class, or the same class and an older stamp (R25). -/
def Entry.ahead (a b : Entry) : Bool :=
  decide (a.cls.rank < b.cls.rank) || (decide (a.cls.rank = b.cls.rank) && decide (a.stamp < b.stamp))

/-- An entry takes its place in the queue (R25). -/
def insertEntry (e : Entry) (q : List Entry) : List Entry :=
  match q with
  | [] => [e]
  | x :: rest => if e.ahead x then e :: x :: rest else x :: insertEntry e rest

/-- The entry of a fader (R24: at most one). -/
def State.entryFor (s : State) (f : FaderId) : Option Entry :=
  s.queue.entries.find? fun e => e.fader = f

/-- Removes a fader's entry, closing the gap (R25). -/
def State.removeEntry (s : State) (f : FaderId) : State :=
  { s with queue := { s.queue with entries := s.queue.entries.filter fun e => e.fader ≠ f } }

/-- Puts a changed entry of a fader at the place its class and kept stamp give it (R25, R27). -/
def State.replaceEntry (s : State) (e : Entry) : State :=
  let t := s.removeEntry e.fader
  { t with queue := { t.queue with entries := insertEntry e t.queue.entries } }

/-- Creates an entry with a new arrival stamp and makes its fader Waiting (R25, R26). -/
def State.joinQueue (s : State) (f : FaderId) (kind : EntryKind) (cls : ReqClass) (tag : Tag) (ramp : Nat)
    (marks : Marks) : State :=
  let e : Entry :=
    { fader := f, kind := kind, cls := cls, tag := tag, ramp := ramp, marks := marks, stamp := s.queue.nextStamp }
  let t := s.modFader f fun x => { x with motion := .waiting }
  { t with queue := { t.queue with entries := insertEntry e t.queue.entries, nextStamp := t.queue.nextStamp + 1 } }

/-- A waiting entry leaves the queue with an outcome: one completion with the fader's current class and tag and the
entry's marks, off-target set, and the motion state from the calibration record (R28). -/
def State.leaveQueue (s : State) (f : FaderId) (o : EndOutcome) : State :=
  match s.entryFor f with
  | none => s
  | some e =>
    let x := s.fader f
    ((s.complete f o .none x.cls x.tag e.marks).removeEntry f).modFader f fun x =>
      { x with motion := x.cal.motion, offTarget := true }

/-! ### The end of a slot's use (R47) -/

/-- A Moving slot ends without arrival: completion, slot freed, fader Idle, off-target set (R34, R35, R37, R77, R136,
R138). -/
def State.endMove (s : State) (i : SlotId) (sl : Slot) (o : EndOutcome) : State :=
  ((s.complete sl.fader o .none sl.cls sl.tag sl.marks).setSlot i none).modFader sl.fader fun x =>
    { x with motion := .idle, offTarget := true }

/-- A Holding slot ends: slot freed, fader Idle, off-target clear (R34, R45, R55, R77). -/
def State.endHold (s : State) (i : SlotId) (sl : Slot) : State :=
  (s.setSlot i none).modFader sl.fader fun x => { x with motion := .idle, offTarget := false }

/-- A Holding slot ends with an outcome (R35, R37, R136, R138). -/
def State.endHoldWith (s : State) (i : SlotId) (sl : Slot) (o : EndOutcome) : State :=
  (s.complete sl.fader o .none sl.cls sl.tag sl.marks).endHold i sl

/-- A homing's slot is freed and its found values are discarded: a homing in Park returns the calibration in force to the
record and the present per-mille is recomputed (R66, R70). -/
def State.dropHoming (s : State) (i : SlotId) (sl : Slot) : State :=
  if sl.phase = .park then (s.setSlot i none).refreshPerMille sl.fader else s.setSlot i none

/-- A homing is ended before its own end: completion of class Home and tag 0 with the per-mille under the record, the
fader's state from the record, off-target set (R70). -/
def State.endHoming (s : State) (i : SlotId) (sl : Slot) (o : EndOutcome) : State :=
  ((s.dropHoming i sl).complete sl.fader o .none .home 0 sl.marks).modFader sl.fader fun x =>
    { x with motion := x.cal.motion, offTarget := true }

/-- The use of an occupied slot is ended with an outcome, by its use (R35, R37, R136, R138). -/
def State.endUse (s : State) (i : SlotId) (sl : Slot) (o : EndOutcome) : State :=
  match sl.use with
  | .moving => s.endMove i sl o
  | .holding => s.endHoldWith i sl o
  | .homing => s.endHoming i sl o

/-- Whatever the part is doing with a fader is ended with an outcome: its entry, or the use of its slot (R28, R35, R136,
R138). No grant decision is made here: it is made once, when the whole action is complete (R47). -/
def State.endService (s : State) (f : FaderId) (o : EndOutcome) : State :=
  match (s.fader f).motion with
  | .waiting => s.leaveQueue f o
  | .moving | .holding | .homing =>
    match s.slotFor f with
    | none => s
    | some (i, sl) => s.endUse i sl o
  | .absent | .unhomed | .idle | .faulted => s

/-! ### The slot arbiter -/

/-- The step of a setpoint: the slew limit, or the distance divided by the ramp and rounded upward and at least 1, the
smaller of the two (R46). -/
def stepFor (setpoint target ramp slew : Nat) : Nat :=
  let dist := max setpoint target - min setpoint target
  if ramp = 0 then slew else min slew (max 1 ((dist + ramp - 1) / ramp))

/-- The slot that a granted Move entry fills (R44). -/
def State.moveSlot (s : State) (e : Entry) : Slot :=
  let x := s.fader e.fader
  let target := rawOfPerMille x.cal.low x.cal.high x.targetPos
  let setpoint := clampNat x.cal.low x.cal.high x.raw
  { fader := e.fader, use := .moving, phase := .down, cls := e.cls, tag := e.tag, marks := e.marks, ramp := e.ramp,
    targetRaw := target, setpoint := setpoint, step := stepFor setpoint target e.ramp x.setup.slewLimit, settle := 0,
    age := 0, stallRun := 0, stallRef := none, holdTimer := 0, holdStamp := 0, drive := 0, phaseAge := 0, stillRun := 0,
    stillRef := none, foundLow := none, foundHigh := none, framesSent := 0 }

/-- The slot of a homing at the start of phase Down, from a grant or a takeover (R61). -/
def homingSlot (f : FaderId) (ramp : Nat) (marks : Marks) (raw : Nat) : Slot :=
  { fader := f, use := .homing, phase := .down, cls := .home, tag := 0, marks := marks, ramp := ramp, targetRaw := 0,
    setpoint := raw, step := 0, settle := 0, age := 0, stallRun := 0, stallRef := none, holdTimer := 0, holdStamp := 0,
    drive := 0, phaseAge := 0, stillRun := 0, stillRef := none, foundLow := none, foundHigh := none, framesSent := 0 }

/-- An entry is granted a slot: the slot is filled, the entry leaves the queue, and the fader becomes Moving or Homing,
a Home grant setting its current class and tag to Home and 0 (R29, R44, R61). -/
def State.grantTo (s : State) (i : SlotId) (e : Entry) : State :=
  let t := s.removeEntry e.fader
  match e.kind with
  | .move => (t.setSlot i (some (s.moveSlot e))).modFader e.fader fun x => { x with motion := .moving }
  | .home =>
    (t.setSlot i (some (homingSlot e.fader e.ramp e.marks (s.fader e.fader).raw))).modFader e.fader fun x =>
      { x with motion := .homing, cls := .home, tag := 0 }

/-- A grant of the head of the queue to the lowest free slot, when the run state is Running, the occupied count is below
the slot limit and the queue is not empty (R43). -/
def State.grantStep (s : State) : Option State :=
  match s.queue.run, s.queue.entries, s.freeSlot? with
  | .running, e :: _, some i => if s.occupied < s.table.limit then some (s.grantTo i e) else none
  | _, _, _ => none

/-- A pre-emption: with the occupied count at or above the slot limit, the head takes the Holding slot with the oldest
hold stamp, whose holder becomes Idle with no completion (R45). -/
def State.preemptStep (s : State) : Option State :=
  match s.queue.run, s.queue.entries, s.oldestHold? with
  | .running, e :: _, some i =>
    if s.table.limit ≤ s.occupied then
      match s.slot i with
      | some sl => some ((s.endHold i sl).grantTo i e)
      | none => none
    else none
  | _, _, _ => none

/-- One decision of the arbiter (R43, R45). -/
def State.arbiterStep (s : State) : Option State :=
  match s.grantStep with
  | some t => some t
  | none => s.preemptStep

/-- At most `n` decisions of the arbiter, until none is left to make. -/
def State.arbiterLoop (n : Nat) (s : State) : State :=
  match n with
  | 0 => s
  | k + 1 =>
    match s.arbiterStep with
    | none => s
    | some t => t.arbiterLoop k

/-- The grant decision, made again until no grant and no pre-emption is left (R43, R45): each takes an entry from the
queue, so the length of the queue bounds them. -/
def State.arbitrate (s : State) : State :=
  s.arbiterLoop s.queue.entries.length

/-- A hold begins: the slot becomes Holding with the fader's hold frames and the next hold stamp (R45, R50), or, with
hold frames 0, is freed; the fader becomes Holding or Idle. -/
def State.beginHold (s : State) (i : SlotId) (sl : Slot) : State :=
  let frames := (s.fader sl.fader).setup.holdFrames
  if frames = 0 then (s.setSlot i none).modFader sl.fader fun x => { x with motion := .idle }
  else
    let t := s.setSlot i (some { sl with
      use := .holding, phase := .down, holdTimer := frames, holdStamp := s.table.nextHold, settle := 0, age := 0,
      stallRun := 0, stallRef := none, foundLow := none, foundHigh := none })
    let u := { t with table := { t.table with nextHold := t.table.nextHold + 1 } }
    u.modFader sl.fader fun x => { x with motion := .holding }

end Sys2Proof.Machine
end

