-- ==== Sys2Proof/Machine/Flags.lean ====
section
/-! DEFINITION. The conditions the part judges: what makes a fader blocked (R17), which sources are pending and count
(R147, R148), and when the attention line is asserted (R150, R151). -/

namespace Sys2Proof.Machine

/-- Whether a fader's bay has a supply fault (R17, R138). -/
def State.supplyFaulted (s : State) (f : FaderId) : Bool :=
  (s.bay (bayOf f)).supplyFault

/-- Whether a fader is blocked: Absent, Unhomed or Faulted, inhibited, or on a bay with a supply fault (R17). -/
def State.blocked (s : State) (f : FaderId) : Bool :=
  let x := s.fader f
  x.motion == .absent || x.motion == .unhomed || x.motion == .faulted || x.inhibit || s.supplyFaulted f

/-- Whether a fader is Touched or Releasing (R78, R99). -/
def Fader.held (x : Fader) : Bool :=
  x.touch != .untouched

/-- Whether COMPLETION is pending: the completion queue is not empty (R146). -/
def State.completionPending (s : State) : Bool :=
  !s.completions.isEmpty

/-- Whether MANUAL is pending: the moved set is not empty (R82). -/
def State.manualPending (s : State) : Bool :=
  (List.finRange 48).any fun f => (s.fader f).moved

/-- The pending flag of the source numbered 1..10 (R147, R148). -/
def State.sourcePending (s : State) (n : Nat) : Bool :=
  match n with
  | 1 => s.completionPending
  | 2 => s.manualPending
  | n =>
    match EventSource.ofNumber n with
    | some e => s.attn.events.get e
    | none => false

/-- The level of the source numbered 1..10: programmable for 1..8, fixed at 8 and 9 for the hard sources (R147). -/
def Attention.level (a : Attention) (n : Nat) : Nat :=
  if h : 1 ≤ n ∧ n ≤ 8 then a.levels[n - 1]
  else if n = 9 then 8
  else if n = 10 then 9
  else 0

/-- Whether a source asserts the line: a pending hard source does; a pending enabled source does when its level is above
the threshold and either the level is 7 or no quiet interval runs (R150). -/
def State.sourceAsserts (s : State) (n : Nat) : Bool :=
  let l := s.attn.level n
  s.sourcePending n
    && (decide (9 ≤ n) || (decide (0 < l) && decide (s.attn.threshold < l) && (l == 7 || s.attn.quiet == 0)))

/-- The numbers of the ten sources (R147). -/
def sourceNumbers : List Nat :=
  [1, 2, 3, 4, 5, 6, 7, 8, 9, 10]

/-- When ATTN is asserted (R150). -/
def State.attnAsserted (s : State) : Bool :=
  sourceNumbers.any s.sourceAsserts

/-- The ATTN line follows the terms it depends on (R150). -/
def State.driveAttn (s : State) : State :=
  { s with attn := { s.attn with line := s.attnAsserted } }

/-- Of two sources, the one of the higher level, and of equal levels the one of the lower number (R151). -/
def Attention.urgent (a : Attention) (best n : Nat) : Nat :=
  if a.level best < a.level n then n else best

/-- The number of the source the attention word names, 0 when none is considered: among the pending sources with a level
above 0, the highest level, then the lowest number (R151). -/
def State.attentionSource (s : State) : Nat :=
  (sourceNumbers.filter fun n => s.sourcePending n && decide (0 < s.attn.level n)).foldl s.attn.urgent 0

/-- A command has had its effect: the attention line follows, and the next state is answered. -/
def State.done (s : State) : Host.Outcome State Fault Refusal :=
  .next s.driveAttn

end Sys2Proof.Machine
end

