-- ==== Sys2Proof/Machine/Requests.lean ====
section
/-! DEFINITION. The acceptance of a target request, whatever its origin (R14 to R18, R52, R69). -/

namespace Sys2Proof.Machine

/-- The first stage of acceptance: range-clamped and rounded-up record what the conversion made of the gain
(R6, R14). -/
def State.recordConversion (s : State) (f : FaderId) (c : Conversion) : State :=
  s.modFader f fun x => { x with rangeClamped := c.clamped, roundedUp := c.roundedUp }

/-- A request for a fader that the operator holds: it becomes the pending target in Manual and Follow mode; in Latch mode
it is discarded, a Cue-class one with a Skipped completion and CUE_EXCEPTION (R15, R100). -/
def State.acceptHeld (s : State) (r : Request) (c : Conversion) : State :=
  match (s.fader r.fader).mode with
  | .manual | .follow =>
    s.modFader r.fader fun x => { x with pendingTarget := some ⟨c.accepted, r.cls, r.tag, r.ramp, r.marks⟩ }
  | .latch =>
    if r.cls = .cue then (s.complete r.fader .skipped .latched r.cls r.tag r.marks).raise .cueException else s

/-- The request's target is recorded (R17, R18). -/
def State.recordTarget (s : State) (f : FaderId) (c : Conversion) : State :=
  s.modFader f fun x => { x with targetGain := c.accepted, targetPos := c.pos }

/-- The fader takes on the request's class and tag, with the given off-target flag (R8). -/
def State.takeOn (s : State) (f : FaderId) (cls : ReqClass) (tag : Tag) (off : Bool) : State :=
  s.modFader f fun x => { x with cls := cls, tag := tag, offTarget := off }

/-- The target raw position of a fader under the calibration in force (R13). -/
def State.targetRaw (s : State) (f : FaderId) : Nat :=
  let c := s.calInForce f
  rawOfPerMille c.1 c.2 (s.fader f).targetPos

/-- Whether two raw positions lie within a deadband of each other (R18, R50). -/
def within (band a b : Nat) : Bool :=
  decide (max a b - min a b ≤ band)

/-- A slot takes a new target, step and ramp, its settle count and age restarting (R52). -/
def Slot.retarget (sl : Slot) (target ramp slew : Nat) (marks : Marks) : Slot :=
  { sl with
    targetRaw := target
    step := stepFor sl.setpoint target ramp slew
    ramp := ramp
    marks := marks
    settle := 0
    age := 0 }

/-- A request for an Idle fader: an immediate Arrived within the deadband, else a Move entry in the queue (R18, R26). -/
def State.acceptIdle (s : State) (r : Request) : State :=
  let x := s.fader r.fader
  let t := s.takeOn r.fader r.cls r.tag false
  if within x.setup.deadband (s.targetRaw r.fader) x.raw then t.complete r.fader .arrived .none r.cls r.tag r.marks
  else (t.joinQueue r.fader .move r.cls r.tag r.ramp r.marks).arbitrate

/-- A request for a Waiting fader updates its entry in place (R27); the fader's class and tag follow the entry (R8). -/
def State.acceptWaiting (s : State) (r : Request) : State :=
  match s.entryFor r.fader with
  | none => s
  | some e =>
    let e' : Entry := { e with cls := e.cls.higher r.cls, tag := r.tag, ramp := r.ramp, marks := r.marks }
    ((s.takeOn r.fader e'.cls e'.tag false).replaceEntry e').arbitrate

/-- A request for a Moving fader supersedes the move; one for a Holding fader returns its slot to Moving (R18, R52). -/
def State.acceptDriven (s : State) (r : Request) : State :=
  match s.slotFor r.fader with
  | none => s
  | some (i, sl) =>
    let sl' := { sl.retarget (s.targetRaw r.fader) r.ramp (s.fader r.fader).setup.slewLimit r.marks with
      cls := r.cls, tag := r.tag }
    let sl'' := if sl.use = .holding then
        { sl' with use := .moving, stallRun := 0, stallRef := none, holdTimer := 0, holdStamp := 0 }
      else sl'
    ((s.takeOn r.fader r.cls r.tag false).setSlot i (some sl'')).modFader r.fader fun x => { x with motion := .moving }

/-- A request for a Homing fader: the slot takes its ramp and marks, and a Park under way is retargeted (R18, R69). -/
def State.acceptHoming (s : State) (r : Request) : State :=
  match s.slotFor r.fader with
  | none => s
  | some (i, sl) =>
    let sl' := if sl.phase = .park then
        sl.retarget (s.targetRaw r.fader) r.ramp (s.fader r.fader).setup.slewLimit r.marks
      else { sl with ramp := r.ramp, marks := r.marks }
    (s.setSlot i (some sl')).modFader r.fader fun x => { x with offTarget := false }

/-- A request for an Untouched fader in Running that is not blocked, by its motion state (R18). -/
def State.acceptMotion (s : State) (r : Request) : State :=
  match (s.fader r.fader).motion with
  | .idle => s.acceptIdle r
  | .waiting => s.acceptWaiting r
  | .moving | .holding => s.acceptDriven r
  | .homing => s.acceptHoming r
  | .absent | .unhomed | .faulted => s

/-- The acceptance of a target request: conversion, then the first case that fits (R14). -/
def State.accept (s : State) (r : Request) : State :=
  let c := convertGain s.law.taper r.gain
  let s1 := s.recordConversion r.fader c
  if (s1.fader r.fader).held then s1.acceptHeld r c
  else if s1.queue.run = .stopped then s1.targetFromPresent r.fader
  else
    let s2 := s1.recordTarget r.fader c
    if s2.blocked r.fader then s2.takeOn r.fader r.cls r.tag true else s2.acceptMotion r

/-- The gain that reaches memory when a request comes by a write of the target word (R14): the accepted gain when it is
recorded or held as pending, the present gain while Stopped, and the target gain still held when it is discarded. -/
def State.targetRewrite (s : State) (r : Request) : Gain :=
  let c := convertGain s.law.taper r.gain
  let x := s.fader r.fader
  if x.held then if x.mode = .latch then x.targetGain else c.accepted
  else if s.queue.run = .stopped then s.presentGain r.fader
  else c.accepted

end Sys2Proof.Machine
end

