-- ==== Sys2Proof/Machine/Servo.lean ====
section
/-! DEFINITION. What a good sense frame does to a drive slot: the servo (R49 to R53), the homing phases (R62 to R64, R67)
and the ends of a homing (R66, R68); and what a frame expiry ends (R54, R55, R65). -/

namespace Sys2Proof.Machine

/-! ### The servo -/

/-- The setpoint moves toward the target by the step and stops there (R50). -/
def advance (setpoint target step : Nat) : Nat :=
  if setpoint ≤ target then min target (setpoint + step) else max target (setpoint - step)

/-- The drive value of an error (R51). -/
def driveFor (x : FaderSetup) (setpoint raw : Nat) : Int :=
  let e : Int := (setpoint : Int) - raw
  if e.natAbs ≤ x.deadband then 0
  else clampInt (-(x.driveLimit : Int)) x.driveLimit ((e * x.servoGain).tdiv 8)

/-- Whether a drive stands at the drive limit (R51). -/
def saturated (x : FaderSetup) (drive : Int) : Bool :=
  decide (x.driveLimit ≤ drive.natAbs)

/-- The stall run and its reference after a frame (R53). -/
def Slot.trackStall (sl : Slot) (sat : Bool) (raw : Nat) : Slot :=
  if !sat then { sl with stallRun := 0, stallRef := none }
  else if sl.stallRun = 0 then { sl with stallRun := 1, stallRef := some raw }
  else { sl with stallRun := sl.stallRun + 1 }

/-- The difference of two raw positions. -/
def rawDiff (a b : Nat) : Nat :=
  max a b - min a b

/-- A Moving slot, or a homing in Park, takes a frame: setpoint, drive, settle count and stall run (R49, R50, R51,
R53). -/
def Slot.servoFrame (sl : Slot) (x : Fader) : Slot :=
  let s' := advance sl.setpoint sl.targetRaw sl.step
  let d := driveFor x.setup s' x.raw
  let settled := s' = sl.targetRaw ∧ within x.setup.deadband sl.targetRaw x.raw
  { sl with setpoint := s', drive := d, settle := if settled then sl.settle + 1 else 0 }.trackStall
    (saturated x.setup d) x.raw

/-- Whether the move has arrived on the frame just taken: the settle count was increased and has reached the settle
frames (R50). -/
def Slot.hasArrived (sl : Slot) (x : Fader) : Bool :=
  decide (0 < sl.settle) && decide (x.setup.settleFrames ≤ sl.settle)

/-- Whether the stall run has reached the stall window (R53). -/
def Slot.stallJudged (sl : Slot) (g : MotionSetup) : Bool :=
  decide (g.stallWindow ≤ sl.stallRun)

/-- Whether a judged stall run moved fewer counts than the stall travel (R53). -/
def Slot.stallFound (sl : Slot) (x : Fader) (g : MotionSetup) : Bool :=
  decide (rawDiff x.raw (sl.stallRef.getD x.raw) < g.stallTravel)

/-- A move arrives: Arrived with the slot's class, tag and marks, off-target cleared, and the hold begins (R50). -/
def State.arrive (s : State) (i : SlotId) (sl : Slot) : State :=
  (((s.complete sl.fader .arrived .none sl.cls sl.tag sl.marks).modFader sl.fader fun x =>
    { x with offTarget := false }).beginHold i sl).arbitrate

/-- A homing ends Homed: the found pair becomes the calibration record, the fault latch and cause are cleared, and the
hold begins (R59, R68). -/
def State.homed (s : State) (i : SlotId) (sl : Slot) : State :=
  (((s.complete sl.fader .homed .none .home 0 sl.marks).modFader sl.fader fun x =>
    { x with
      offTarget := false
      cal :=
        { low := sl.foundLow.getD x.cal.low, high := sl.foundHigh.getD x.cal.high, calibrated := true, latched := false,
          cause := .none } }).beginHold i sl).arbitrate

/-- A fault is latched: the fader becomes Faulted with off-target set, and FADER_FAULT is raised (R53, R59, R66). -/
def State.latchFault (s : State) (f : FaderId) (cause : FaultCause) : State :=
  (s.modFader f fun x =>
    { x with motion := .faulted, offTarget := true, cal := { x.cal with latched := true, cause := cause } }).raise
    .faderFault

/-- A move stalls (R53). -/
def State.stallMove (s : State) (i : SlotId) (sl : Slot) : State :=
  (((s.complete sl.fader .stalled .none sl.cls sl.tag sl.marks).setSlot i none).latchFault sl.fader .stall).arbitrate

/-- A homing in Park stalls: Stalled with class Home and tag 0, found values discarded (R68). -/
def State.stallPark (s : State) (i : SlotId) (sl : Slot) : State :=
  (((s.complete sl.fader .stalled .none .home 0 sl.marks).dropHoming i sl).latchFault sl.fader .stall).arbitrate

/-- A Moving slot takes a good frame (R49). -/
def State.serveMove (s : State) (i : SlotId) (sl : Slot) : State :=
  let x := s.fader sl.fader
  let sl' := sl.servoFrame x
  let t := s.setSlot i (some sl')
  if sl'.hasArrived x then t.arrive i sl'
  else if sl'.stallJudged s.setup then
    if sl'.stallFound x s.setup then t.stallMove i sl'
    else s.setSlot i (some { sl' with stallRun := 0, stallRef := none })
  else t

/-- A homing in Park takes a good frame as a Moving slot does, with its own ends (R68). -/
def State.servePark (s : State) (i : SlotId) (sl : Slot) : State :=
  let x := s.fader sl.fader
  let sl' := sl.servoFrame x
  let t := s.setSlot i (some sl')
  if sl'.hasArrived x then t.homed i sl'
  else if sl'.stallJudged s.setup then
    if sl'.stallFound x s.setup then t.stallPark i sl'
    else s.setSlot i (some { sl' with stallRun := 0, stallRef := none })
  else t

/-- A Holding slot takes a good frame: only the drive is computed (R49, R55). -/
def State.serveHold (s : State) (i : SlotId) (sl : Slot) : State :=
  let x := s.fader sl.fader
  s.setSlot i (some { sl with drive := driveFor x.setup sl.setpoint x.raw })

/-! ### Homing phases Down and Up -/

/-- The still run and its reference after a frame (R62, steps 1 and 2); the setpoint field holds the present raw
position (R61). -/
def Slot.trackStill (sl : Slot) (raw : Nat) : Slot :=
  if sl.stillRun = 0 then { sl with setpoint := raw, stillRun := 1, stillRef := some raw }
  else { sl with setpoint := raw, stillRun := sl.stillRun + 1 }

/-- Whether the run has ended, and whether the fader was still across it (R62, step 3). -/
def Slot.stillEnd (sl : Slot) (raw : Nat) (g : MotionSetup) : Option Bool :=
  if g.stillFrames ≤ sl.stillRun then some (decide (rawDiff raw (sl.stillRef.getD raw) < g.stillTravel)) else none

/-- A frame that does not find the fader still: a run that ended begins anew on it (R62), and the fader is driven
on (R63, R64). -/
def Slot.driveOn (sl : Slot) (ended : Bool) (raw : Nat) (drive : Int) : Slot :=
  if ended then { sl with drive := drive, stillRun := 1, stillRef := some raw } else { sl with drive := drive }

/-- A homing fails: HomeFailed with class Home and tag 0, the record kept but for the latch and cause (R66). -/
def State.failHoming (s : State) (i : SlotId) (sl : Slot) (cause : FaultCause) : State :=
  (((s.dropHoming i sl).complete sl.fader .homeFailed .none .home 0 sl.marks).latchFault sl.fader cause).arbitrate

/-- Phase Down takes a good frame (R63). -/
def State.serveDown (s : State) (i : SlotId) (sl : Slot) : State :=
  let x := s.fader sl.fader
  let sl' := sl.trackStill x.raw
  match sl'.stillEnd x.raw s.setup with
  | some true =>
    s.setSlot i (some { sl' with
      phase := .up, foundLow := some x.raw, phaseAge := 0, stillRun := 0, stillRef := none, drive := x.setup.homeDrive })
  | some false => s.setSlot i (some (sl'.driveOn true x.raw (-(x.setup.homeDrive : Int))))
  | none => s.setSlot i (some (sl'.driveOn false x.raw (-(x.setup.homeDrive : Int))))

/-- The per-mille at which a homing parks a fader: 0 for a target of Off, and else the recorded target position (R32, R67). An
Off taken from a fader that stood below the cut parks at 0 too, whatever position is recorded beside it
(notes/assumptions/30.md). -/
def Fader.parkPos (x : Fader) : Nat :=
  match x.targetGain with
  | .off => 0
  | .cdb _ => x.targetPos

/-- Phase Park begins under the found pair (R67). -/
def State.beginPark (s : State) (i : SlotId) (sl : Slot) (low high : Nat) : State :=
  let x := s.fader sl.fader
  let target := rawOfPerMille low high x.parkPos
  let t := s.setSlot i (some { sl with
    phase := .park, foundLow := some low, foundHigh := some high, targetRaw := target, setpoint := x.raw,
    step := stepFor x.raw target sl.ramp x.setup.slewLimit, settle := 0, age := 0, stallRun := 0, stallRef := none,
    stillRun := 0, stillRef := none, phaseAge := 0, drive := 0 })
  t.refreshPerMille sl.fader

/-- Phase Up takes a good frame; a fader found still has its span checked on the same frame (R64). -/
def State.serveUp (s : State) (i : SlotId) (sl : Slot) : State :=
  let x := s.fader sl.fader
  let sl' := sl.trackStill x.raw
  match sl'.stillEnd x.raw s.setup with
  | some true =>
    let low := sl.foundLow.getD x.cal.low
    if low + s.setup.minSpan ≤ x.raw then s.beginPark i sl' low x.raw else s.failHoming i sl' .homeSpan
  | some false => s.setSlot i (some (sl'.driveOn true x.raw x.setup.homeDrive))
  | none => s.setSlot i (some (sl'.driveOn false x.raw x.setup.homeDrive))

/-- A slot takes a good frame of its fader's bay, by its use and phase (R49). -/
def State.serveSlot (s : State) (i : SlotId) (sl : Slot) : State :=
  match sl.use with
  | .moving => s.serveMove i sl
  | .holding => s.serveHold i sl
  | .homing =>
    match sl.phase with
    | .down => s.serveDown i sl
    | .up => s.serveUp i sl
    | .park => s.servePark i sl

/-! ### What a frame expiry counts and ends -/

/-- The counters of a slot advance at a frame expiry: the age of a move or of Park (R54, R68), the hold timer (R55), the
phase age of Down and Up (R65). -/
def Slot.tick (sl : Slot) : Slot :=
  match sl.use with
  | .moving => { sl with age := sl.age + 1 }
  | .holding => { sl with holdTimer := sl.holdTimer - 1 }
  | .homing =>
    match sl.phase with
    | .park => { sl with age := sl.age + 1 }
    | .down | .up => { sl with phaseAge := sl.phaseAge + 1 }

/-- A move times out (R54). -/
def State.timeoutMove (s : State) (i : SlotId) (sl : Slot) : State :=
  ((((s.endMove i sl .timedOut).modFader sl.fader fun x =>
    { x with cal := { x.cal with cause := .timedOut } }).raise .faderFault)).arbitrate

/-- A homing in Park times out (R68). -/
def State.timeoutPark (s : State) (i : SlotId) (sl : Slot) : State :=
  ((((s.complete sl.fader .timedOut .none .home 0 sl.marks).dropHoming i sl).modFader sl.fader fun x =>
    { x with
      motion := x.cal.motion, offTarget := true, cal := { x.cal with cause := .timedOut } }).raise .faderFault).arbitrate

/-- A hold ends (R55). -/
def State.expireHold (s : State) (i : SlotId) (sl : Slot) : State :=
  (s.endHold i sl).arbitrate

/-- Whether a Moving slot's age exceeds the move limit (R54). -/
def Slot.moveTimedOut (sl : Slot) (g : MotionSetup) : Bool :=
  sl.use == .moving && decide (g.moveLimit < sl.age)

/-- Whether the age of a homing in Park exceeds the move limit (R68). -/
def Slot.parkTimedOut (sl : Slot) (g : MotionSetup) : Bool :=
  sl.use == .homing && sl.phase == .park && decide (g.moveLimit < sl.age)

/-- Whether a Holding slot's hold timer stands at 0 (R55). -/
def Slot.holdExpired (sl : Slot) : Bool :=
  sl.use == .holding && sl.holdTimer == 0

/-- Whether the phase age of a homing in Down or Up exceeds the home limit (R65). -/
def Slot.homeLimitPassed (sl : Slot) (g : MotionSetup) : Bool :=
  sl.use == .homing && sl.phase != .park && decide (g.homeLimit < sl.phaseAge)

/-- The fault cause of a homing that exceeds the home limit in a phase (R65). -/
def HomingPhase.limitCause (p : HomingPhase) : FaultCause :=
  match p with
  | .down => .homeDown
  | .up | .park => .homeUp

/-- What a frame expiry ends in a slot whose counters have advanced. -/
def State.judgeSlot (s : State) (i : SlotId) : State :=
  match s.slot i with
  | none => s
  | some sl =>
    if sl.moveTimedOut s.setup then s.timeoutMove i sl
    else if sl.parkTimedOut s.setup then s.timeoutPark i sl
    else if sl.holdExpired then s.expireHold i sl
    else if sl.homeLimitPassed s.setup then s.failHoming i sl sl.phase.limitCause
    else s

end Sys2Proof.Machine
end

