-- ==== Sys2Proof/Machine/Touch.lean ====
section
/-! DEFINITION. The touch monitor: debounce (R73 to R75), taking a fader out of the machine's hands (R77), the end of
Releasing (R80), and the moved set (R82). -/

namespace Sys2Proof.Machine

/-- A touch ends what the part is doing with a fader: TouchAbandoned for an entry, a move and a homing, no completion for
a hold (R77). -/
def State.abandon (s : State) (f : FaderId) : State :=
  match (s.fader f).motion with
  | .waiting => s.leaveQueue f .touchAbandoned
  | .moving | .holding | .homing =>
    match s.slotFor f with
    | none => s
    | some (i, sl) =>
      match sl.use with
      | .moving => s.endMove i sl .touchAbandoned
      | .holding => s.endHold i sl
      | .homing => s.endHoming i sl .touchAbandoned
  | .absent | .unhomed | .idle | .faulted => s

/-- A fader enters Touched from Untouched (R77); in Latch mode its latched flag is set (R81). A slot it leaves is free
for the arbiter at once. -/
def State.enterTouched (s : State) (f : FaderId) : State :=
  ((s.abandon f).modFader f fun x =>
    { x with touch := .touched, touchRun := 0, latched := x.latched || x.mode == .latch }).arbitrate

/-- The pending target of a fader as the request it is reissued as (R9). -/
def PendingTarget.request (p : PendingTarget) (f : FaderId) : Request :=
  ⟨f, p.gain, p.cls, p.tag, p.ramp, p.marks⟩

/-- Releasing ends: the fader becomes Untouched and its target is settled by its mode (R80). -/
def State.endReleasing (s : State) (f : FaderId) : State :=
  let x := s.fader f
  let t := s.modFader f fun x => { x with touch := .untouched, touchRun := 0, guardTimer := 0, pendingTarget := none }
  match x.mode, x.pendingTarget with
  | .follow, some p => t.accept (p.request f)
  | _, _ => t.targetFromPresent f

/-- A fader enters Releasing: the guard timer takes the release guard, and with a guard of 0 Releasing ends at once
(R74). -/
def State.enterReleasing (s : State) (f : FaderId) : State :=
  let t := s.modFader f fun x => { x with touch := .releasing, releaseRun := 0, guardTimer := s.setup.releaseGuard }
  if s.setup.releaseGuard = 0 then t.endReleasing f else t

/-- The touch monitor takes a fader's touch bit from a good frame (R73, R74, R75). -/
def State.touchFrame (s : State) (f : FaderId) (bit : Bool) : State :=
  let x := s.fader f
  match x.touch with
  | .untouched =>
    if bit then
      if Config.touchFrames ≤ x.touchRun + 1 then s.enterTouched f
      else s.modFader f fun x => { x with touchRun := x.touchRun + 1 }
    else s.modFader f fun x => { x with touchRun := 0 }
  | .touched =>
    if bit then s.modFader f fun x => { x with releaseRun := 0 }
    else if Config.releaseFrames ≤ x.releaseRun + 1 then s.enterReleasing f
    else s.modFader f fun x => { x with releaseRun := x.releaseRun + 1 }
  | .releasing =>
    if bit then s.modFader f fun x => { x with touch := .touched, guardTimer := 0, releaseRun := 0 }
    else s

/-- The guard timer of a Releasing fader advances at a frame expiry (R75). -/
def Fader.tick (x : Fader) : Fader :=
  if x.touch = .releasing then { x with guardTimer := x.guardTimer - 1 } else x

/-- What a frame expiry ends for a fader whose guard timer has advanced (R75). -/
def State.judgeGuard (s : State) (f : FaderId) : State :=
  let x := s.fader f
  if x.touch = .releasing ∧ x.guardTimer = 0 then s.endReleasing f else s

/-- Whether two gains differ by the report step or more: Off differs from every other gain (R82). -/
def gainsDiffer (step : Nat) (a b : Gain) : Bool :=
  match a, b with
  | .off, .off => false
  | .cdb x, .cdb y => decide (step ≤ (x - y).natAbs)
  | .off, .cdb _ => true
  | .cdb _, .off => true

/-- The moved-set test of a fitted fader on a good frame: a fader that held a slot, or that just left Absent, has its
last reported gain set; another joins the set when its gain differs by the report step (R82). -/
def State.movedTest (s : State) (f : FaderId) (follows : Bool) : State :=
  let g := s.presentGain f
  let x := s.fader f
  if follows || (s.slotFor f).isSome then s.modFader f fun x => { x with lastReported := g }
  else if gainsDiffer s.setup.reportStep g x.lastReported && !x.moved then s.modFader f fun x => { x with moved := true }
  else s

end Sys2Proof.Machine
end

