-- ==== Sys2Proof/Machine/Cues.lean ====
section
/-! DEFINITION. The cue list and surface time: order of cues (R88, R90), capture (R93, R94), cancel (R95), firing
(R97 to R99), and the recall unit with its undo history (R106 to R111). -/

namespace Sys2Proof.Machine

/-! ### Surface time and the order of cues -/

/-- The lead of a due time at a surface time: the one number in -(2^31 - 1)..+2^31 equal to due - now mod 2^32 (R88). -/
def leadOf (due now : BitVec 32) : Int :=
  let d := (due - now).toNat
  if d ≤ 2 ^ 31 then d else (d : Int) - 2 ^ 32

/-- Whether a due time is reached (R88; 00_scope.md, due comparison). -/
def isDue (due now : BitVec 32) : Bool :=
  decide ((now - due).toNat < 2 ^ 31)

/-- The lateness of a due cue (R88). -/
def lateness (due now : BitVec 32) : Nat :=
  (now - due).toNat

/-- Whether a cue stands ahead of another at a surface time: the smaller lead, then the older capture (R90). -/
def Cue.ahead (now : BitVec 32) (a b : Cue) : Bool :=
  decide (leadOf a.due now < leadOf b.due now)
    || (decide (leadOf a.due now = leadOf b.due now) && decide (a.capture < b.capture))

/-- A cue takes its place in the list (R90). -/
def insertCue (now : BitVec 32) (c : Cue) (l : List Cue) : List Cue :=
  match l with
  | [] => [c]
  | x :: rest => if c.ahead now x then c :: x :: rest else x :: insertCue now c rest

/-- The cues in order of lead and capture at a surface time (R90). -/
def sortCues (now : BitVec 32) (l : List Cue) : List Cue :=
  l.foldr (insertCue now) []

/-- Surface time takes a value, which changes the lead of every cue (R87, R89). -/
def CueList.setTime (c : CueList) (now : BitVec 32) : CueList :=
  { c with surface := now, cues := sortCues now c.cues }

/-! ### Arm and cancel -/

/-- A cue's staged content (R90). -/
structure StagedCue where
  fader : Nat
  due : BitVec 32
  gain : Gain
  ramp : Nat
  tag : Tag
  group : BitVec 3
  guardCode : Nat
  deriving DecidableEq, Repr

/-- The staged cue that the copies of the four staging words spell (section 12.3). -/
def Staging.cue (g : Staging) : StagedCue :=
  { fader := fieldNat g.cueTag 16 8, due := g.cueDue, gain := Gain.ofCode (fieldInt g.cueGain 0),
    ramp := fieldNat g.cueGain 16 16, tag := g.cueTag.extractLsb' 0 16, group := g.cueGuard.extractLsb' 0 3,
    guardCode := fieldNat g.cueGuard 8 8 }

/-- Whether a cue is the one for a fader and a due time (R94). -/
def Cue.isFor (c : Cue) (f : FaderId) (due : BitVec 32) : Bool :=
  decide (c.fader = f) && decide (c.due = due)

/-- The capture of a cue that passed its checks: in place of the cue for the same fader and due time, or as a new cue
with a new capture number (R94). -/
def CueList.capture (l : CueList) (f : FaderId) (g : StagedCue) (guard : GuardMode) : CueList :=
  if l.cues.any fun c => c.isFor f g.due then
    { l with cues := l.cues.map fun c =>
        if c.isFor f g.due then { c with gain := g.gain, ramp := g.ramp, tag := g.tag, group := g.group, guard := guard }
        else c }
  else
    { l with
      cues := insertCue l.surface
        ⟨f, g.due, g.gain, g.ramp, g.tag, g.group, guard, l.nextCapture⟩ l.cues
      nextCapture := l.nextCapture + 1 }

/-- The checks of an arm, in order (R93), and the capture (R94). -/
def State.arm (s : State) : State :=
  let g := s.staging.cue
  if h : g.fader < 48 then
    if Config.maxRamp < g.ramp then s.refuse .cueBadRamp
    else
      match GuardMode.ofCode g.guardCode with
      | none => s.refuse .cueBadGuard
      | some guard =>
        if s.cues.cues.length < Config.maxCues || s.cues.cues.any fun c => c.isFor ⟨g.fader, h⟩ g.due then
          { s with cues := s.cues.capture ⟨g.fader, h⟩ g guard }
        else s.refuse .cueListFull
  else s.refuse .cueBadFader

/-- A cancel removes every cue of a tag, or every cue for tag 0xFFFF (R95). -/
def State.cancelCues (s : State) (tag : Tag) : State :=
  { s with cues := { s.cues with
      cues := s.cues.cues.filter fun c => decide (tag ≠ Config.cancelAllTag) && decide (c.tag ≠ tag) } }

/-! ### Firing -/

/-- Whether a fader is a member of a group (R7). -/
def Fader.inGroup (x : Fader) (g : BitVec 3) : Bool :=
  x.groups.getLsbD g.toNat

/-- The members of a group at this moment (R99). -/
def State.members (s : State) (g : BitVec 3) : List FaderId :=
  (List.finRange 48).filter fun f => (s.fader f).inGroup g

/-- Whether a cue's guard is true at this moment (R99). -/
def State.guardTrue (s : State) (mode : GuardMode) (g : BitVec 3) : Bool :=
  let touched := fun f => (s.fader f).held
  match mode with
  | .always => true
  | .noneTouched => !(s.members g).any touched
  | .anyTouched => (s.members g).any touched
  | .allTouched => !(s.members g).isEmpty && (s.members g).all touched

/-- The request that a fired cue issues (R98, step 4). -/
def Cue.request (c : Cue) (late : Bool) : Request :=
  ⟨c.fader, c.gain, .cue, c.tag, c.ramp, ⟨late, false⟩⟩

/-- A cue taken for firing is judged at the surface time of the advance: Dropped, Skipped (latched), Skipped (guard), or
issued as a request (R98), with CUE_EXCEPTION where R100 raises it. -/
def State.fireCue (s : State) (c : Cue) (now : BitVec 32) : State :=
  let late := lateness c.due now
  let marks : Marks := ⟨decide (1 ≤ late), false⟩
  if s.cues.lateLimit < late then (s.complete c.fader .dropped .none .cue c.tag ⟨true, false⟩).raise .cueException
  else if (s.fader c.fader).latched then (s.complete c.fader .skipped .latched .cue c.tag marks).raise .cueException
  else if !s.guardTrue c.guard c.group then (s.complete c.fader .skipped .guard .cue c.tag marks).raise .cueException
  else
    let t := if 1 ≤ late then s.raise .cueException else s
    t.accept (c.request (decide (1 ≤ late)))

/-- The cues that an advance to the surface time in force fires, in list order: in Running every cue that is due, and none
while Stopped (R97). -/
def State.dueCues (s : State) : List Cue :=
  match s.queue.run with
  | .stopped => []
  | .running => s.cues.cues.filter fun c => isDue c.due s.cues.surface

/-- A cue leaves the list and is fired at a surface time (R97). -/
def State.fireFrom (s : State) (now : BitVec 32) (c : Cue) : State :=
  State.fireCue { s with cues := { s.cues with cues := s.cues.cues.erase c } } c now

/-- Some cues are removed and fired at the surface time in force, in their order, each whole before the next (R97). -/
def State.fireCues (s : State) (l : List Cue) : State :=
  l.foldl (fun t c => t.fireFrom s.cues.surface c) s

/-- Every cue due at the surface time in force is removed and fired, head first (R97). -/
def State.fireDue (s : State) : State :=
  s.fireCues s.dueCues

/-- Surface time goes on by 1, and the list is in order for it (R87, R90). -/
def State.tickSurface (s : State) : State :=
  { s with cues := s.cues.setTime (s.cues.surface + 1) }

/-- An advance: surface time goes on by 1, and the cues due at it are fired at once (R87, R97). -/
def State.advanceTime (s : State) : State :=
  s.tickSurface.fireDue

/-! ### The recall unit -/

/-- One staged pair: fader number and gain (R104, section 12.3). -/
structure StagedPair where
  fader : Nat
  gain : Gain
  deriving DecidableEq, Repr

/-- The first `n` staged pairs, in staging order (R104). -/
def Staging.pairList (g : Staging) (n : Nat) : List StagedPair :=
  (g.pairs.toList.take n).map fun v => ⟨fieldNat v 16 8, Gain.ofCode (fieldInt v 0)⟩

/-- A staged pair whose fader is 0..47 (R106). -/
def StagedPair.prior? (p : StagedPair) : Option PriorTarget :=
  if h : p.fader < 48 then some ⟨⟨p.fader, h⟩, p.gain⟩ else none

/-- The checks of a commit, in order (R106): the reason of the first that fails, or none. -/
def State.commitRefusal (s : State) (count : Nat) : Option RefusalReason :=
  let pairs := s.staging.pairList count
  if s.queue.run = .stopped then some .stopped
  else if count < 1 ∨ 48 < count then some .recallBadCount
  else if pairs.any fun p => decide (48 ≤ p.fader) then some .recallBadFader
  else if ¬ (pairs.map StagedPair.fader).Nodup then some .recallDuplicate
  else none

/-- The next recall number: 65535 advances to 1 (R107). -/
def nextRecall (n : BitVec 16) : BitVec 16 :=
  if n = 0xFFFF then 1 else n + 1

/-- One Recall-class request is issued for each listed fader and gain, in order, each accepted before the next
(R109, R111). -/
def State.issueAll (s : State) (l : List PriorTarget) (tag : Tag) (ramp : Nat) (undo : Bool) : State :=
  l.foldl (fun t p => t.accept ⟨p.fader, p.gain, .recall, tag, ramp, ⟨false, undo⟩⟩) s

/-- A commit that passed its checks: number advanced, entry pushed with the prior targets, requests issued
(R107, R108, R109). -/
def State.takeCommit (s : State) (count ramp : Nat) : State :=
  let listed := (s.staging.pairList count).filterMap StagedPair.prior?
  let number := nextRecall s.recalls.number
  let entry : HistoryEntry :=
    ⟨number, ramp, listed.map fun p => ⟨p.fader, (s.fader p.fader).targetGain⟩⟩
  State.issueAll
    { s with recalls := { number := number, history := (entry :: s.recalls.history).take Config.maxHistory } }
    listed number ramp false

/-- A recall commit with a count and a ramp; a ramp above 5000 is taken as 5000 (R105, R106). -/
def State.commitRecall (s : State) (count ramp : Nat) : State :=
  match s.commitRefusal count with
  | some r => s.refuse r
  | none => s.takeCommit count (min ramp Config.maxRamp)

/-- An undo: the top history entry is removed and its prior targets are issued as requests with the undo mark (R111). -/
def State.undoRecall (s : State) : State :=
  match s.recalls.history with
  | [] => s.refuse .historyEmpty
  | e :: rest =>
    State.issueAll { s with recalls := { s.recalls with history := rest } } e.priors e.number e.ramp true

end Sys2Proof.Machine
end

