-- ==== Sys2Proof/Machine/Meters.lean ====
section
/-! DEFINITION. The meter engine: intake (R115 to R118, R120), frame expiry (R119), segments (R121), the scale commit
(R123) and the taper commit's checks (R20). -/

namespace Sys2Proof.Machine

/-- The quotient num / den rounded upward, for num at or above 0 and den above 0 (R116). -/
def ceilDiv (num den : Int) : Int :=
  (num + den - 1) / den

/-- The quotient num / den rounded to the nearest integer, an exact half away from zero (R117). -/
def roundHalfAway (num den : Int) : Int :=
  if 0 ≤ num then (2 * num + den) / (2 * den) else -((2 * (-num) + den) / (2 * den))

/-- The stale flag is cleared by an intake, with the levels as the stale rule left them (R120). -/
def Meter.leaveStale (m : Meter) : Meter :=
  { m with stale := false }

/-- The hold update of an intake (R116, R117). -/
def Meter.holdIntake (m : Meter) (x : Int) : Meter :=
  if m.hold ≤ x then { m with hold := x, holdTimer := m.setup.holdFrames } else m

/-- The display level update of an intake, by kind (R116, R117). -/
def Meter.levelIntake (m : Meter) (x : Int) : Meter :=
  match m.setup.kind with
  | .peak => if m.level < x then { m with level := m.level + ceilDiv ((x - m.level) * m.setup.attack) 16 } else m
  | .average => { m with level := m.level + roundHalfAway ((x - m.level) * m.setup.attack) 16 }

/-- The over run after an intake (R118). -/
def Meter.nextOverRun (m : Meter) (x : Int) : Nat :=
  if m.setup.overThreshold ≤ x then min (m.overRun + 1) m.setup.overCount else 0

/-- Whether an intake sets the over latch: the over run equals the over count and the latch is clear (R118). -/
def Meter.setsOver (m : Meter) (x : Int) : Bool :=
  decide (m.setup.overThreshold ≤ x) && decide (m.nextOverRun x = m.setup.overCount) && !m.overLatch

/-- The over run and over latch update of an intake (R118). -/
def Meter.overIntake (m : Meter) (x : Int) : Meter :=
  { m with overRun := m.nextOverRun x, overLatch := m.overLatch || m.setsOver x }

/-- An intake of the value taken, in the steps of R115. -/
def Meter.intake (m : Meter) (x : Int) : Meter :=
  { (((m.leaveStale.holdIntake x).levelIntake x).overIntake x) with lastIntake := x, intakeTimer := 0 }

/-- Whether the next frame expiry turns a meter stale (R119, step 3). With an intake timeout of 1 every expiry does, whatever
intake came before it, where R128 has none follow: that R119 is followed there is the model's choice
(notes/assumptions/32.md). -/
def Meter.timesOut (m : Meter) : Bool :=
  !m.stale && decide (0 < m.setup.intakeTimeout) && decide (m.setup.intakeTimeout ≤ m.intakeTimer + 1)

/-- The display decay of a frame expiry (R119, step 1). -/
def Meter.decayLevel (m : Meter) : Meter :=
  match m.setup.kind with
  | .peak => { m with level := max Config.levelMin (m.level - m.setup.decay) }
  | .average => m

/-- The hold at a frame expiry (R119, step 2): the expiry that brings the hold timer from 1 to 0 leaves the hold as it is. R128
has the hold fall at the expiry at which the timer would run out; that R119 is followed there is the model's choice
(notes/assumptions/31.md). -/
def Meter.decayHold (m : Meter) : Meter :=
  if 0 < m.holdTimer then { m with holdTimer := m.holdTimer - 1 }
  else { m with hold := max m.level (m.hold - m.setup.decay) }

/-- The intake timer at a frame expiry, and what turning stale does (R119, step 3). An intake timeout of 1 is reached at every
expiry, also at one that an intake came just before (R119 before R128: the model's choice, notes/assumptions/32.md). -/
def Meter.timeIntake (m : Meter) : Meter :=
  if !m.stale && decide (0 < m.setup.intakeTimeout) then
    if m.setup.intakeTimeout ≤ m.intakeTimer + 1 then
      { m with
        intakeTimer := m.intakeTimer + 1, stale := true, level := Config.levelMin, hold := Config.levelMin,
        holdTimer := 0, overRun := 0 }
    else { m with intakeTimer := m.intakeTimer + 1 }
  else m

/-- A frame expiry takes a meter (R119). -/
def Meter.expiry (m : Meter) : Meter :=
  m.decayLevel.decayHold.timeIntake

/-- A meter's record at its Restart values, its setup kept (R114, R129). -/
def Meter.restart (m : Meter) : Meter :=
  { Meter.reset with setup := m.setup }

/-- An intake for a meter (R115), raising METER_OVER when it sets the over latch (R118). -/
def State.intake (s : State) (i : MeterId) (x : Int) : State :=
  let t := s.setMeter i ((s.meter i).intake x)
  if ((s.meter i).leaveStale).setsOver x then t.raise .meterOver else t

/-- A frame expiry takes one meter (R119), raising METER_STALE when it turns stale. -/
def State.meterExpiry (s : State) (i : MeterId) : State :=
  let t := s.setMeter i (s.meter i).expiry
  if (s.meter i).timesOut then t.raise .meterStale else t

/-- The lit segments of a meter (R121). -/
def Meter.lit (m : Meter) (scale : List Int) : Nat :=
  if m.stale then 0 else scale.countP fun t => decide (t ≤ m.level)

/-- The hold segment of a meter (R121). -/
def Meter.holdSegment (m : Meter) (scale : List Int) : Nat :=
  if m.stale then 0 else scale.countP fun t => decide (t ≤ m.hold)

/-- The staged thresholds, 0 to 31 (R122, section 12.3). -/
def Staging.thresholds (g : Staging) : List Int :=
  g.scale.toList.map fun v => fieldInt v 0

/-- Whether a threshold list meets the conditions of a scale table (R121, R123): threshold 0 at or above -6000, threshold
31 at or below +2000, each greater than the one before. -/
def scaleOk (l : List Int) : Bool :=
  (l.head?.any fun t => decide (Config.levelMin ≤ t)) && (l.getLast?.any fun t => decide (t ≤ Config.levelMax))
    && decide (l.IsChain (· < ·))

/-- A scale commit (R123). -/
def State.commitScale (s : State) : State :=
  let l := s.staging.thresholds
  if scaleOk l then { s with engine := { s.engine with scale := l } } else s.refuse .scaleNotAscending

/-- The staged taper points that the staged count counts (section 1.6, section 12.3). -/
def Staging.points (g : Staging) (n : Nat) : List TaperPoint :=
  (g.taperPoints.toList.take n).map fun v => ⟨fieldNat v 16 16, fieldInt v 0⟩

/-- The checks of a taper commit, in order (R20): the reason of the first that fails, or none. -/
def Staging.taperRefusal (g : Staging) : Option RefusalReason :=
  let n := fieldNat g.taperCount 0 8
  let l := g.points n
  if n < 2 ∨ 16 < n then some .taperBadCount
  else if ¬ ((l.head?.any fun p => decide (p.pos = 0) && decide (Config.gainMin ≤ p.gain))
      ∧ (l.getLast?.any fun p => decide (p.pos = 1000) && decide (p.gain ≤ Config.gainMax))) then some .taperBadEnds
  else if ¬ l.IsChain fun p q => p.pos < q.pos ∧ p.gain < q.gain then some .taperNotIncreasing
  else none

/-- A taper commit (R20): a table that passes replaces the one in force and touches nothing else (R21). -/
def State.commitTaper (s : State) : State :=
  match s.staging.taperRefusal with
  | some r => s.refuse r
  | none => { s with law := { s.law with taper := s.staging.points (fieldNat s.staging.taperCount 0 8) } }

end Sys2Proof.Machine
end

