-- ==== Sys2Proof/Machine/Links.lean ====
section
/-! DEFINITION. The bay links: sense frames (R131, R134, R135, R137 to R139), missed frames and bay loss (R132, R136),
and drive frames with their bytes (R130, R51, R127, section 12.7 and 12.8). -/

namespace Sys2Proof.Machine

/-! ### The bytes of a sense frame -/

/-- The 8-bit sum of a list of bytes (R130, R131). -/
def byteSum (l : List Byte) : Byte :=
  l.foldl (· + ·) 0

/-- Whether received bytes are a good frame for the open window's sequence number: 20 bytes, the sense start byte, a sum
of 0 after the start byte, and the sequence echo (R131, section 12.8). -/
def goodFrame (bytes : List Byte) (seq : Byte) : Bool :=
  decide (bytes.length = 20) && decide (bytes.getD 0 0 = Config.senseStart) && decide (byteSum bytes.tail = 0)
    && decide (bytes.getD 1 0 = seq)

/-- One position's entry of a sense frame (section 12.8). -/
structure SenseEntry where
  raw : Nat
  touch : Bool
  fitted : Bool
  deriving DecidableEq, Repr

/-- The entry of a position in the bytes of a sense frame (section 12.8). -/
def senseEntry (bytes : List Byte) (p : Position) : SenseEntry :=
  let lo := bytes.getD (2 + 2 * p.val) 0
  let hi := bytes.getD (3 + 2 * p.val) 0
  ⟨(hi.extractLsb' 0 4 ++ lo).toNat, hi.getLsbD 4, hi.getLsbD 5⟩

/-- The fitted bits of a sense frame as a mask (section 12.8). -/
def senseFitted (bytes : List Byte) : BitVec 8 :=
  (List.finRange 8).foldl
    (fun acc p => acc ||| (BitVec.ofNat 8 (senseEntry bytes p).fitted.toNat <<< p.val)) 0

/-- The supply report of a sense frame (section 12.8). -/
def senseSupplyGood (bytes : List Byte) : Bool :=
  (bytes.getD 18 0).getLsbD 0

/-! ### Faders leaving and entering -/

/-- A fader becomes Absent: position held with the stale flag set, Untouched with its counters at 0, pending target
discarded (R85, R136, R137). -/
def Fader.leave (x : Fader) : Fader :=
  { x with
    motion := .absent, stale := true, touch := .untouched, touchRun := 0, releaseRun := 0, guardTimer := 0,
    pendingTarget := none }

/-- The machine's hold on a fader ends BayLost, and the fader becomes Absent (R136, R137). -/
def State.loseFader (s : State) (f : FaderId) : State :=
  (s.endService f .bayLost).modFader f Fader.leave

/-- A fader leaves Absent with the state its calibration record gives (R135, R137). -/
def State.enterFader (s : State) (f : FaderId) : State :=
  s.modFader f fun x => { x with motion := x.cal.motion }

/-- Does something for each fitted position of a bay, in position order 0..7: the order of R136 and R138 where a bay is
lost or its supply fails, and the model's where no rule orders the faders of one frame (notes/assumptions/27.md). -/
def State.forFitted (s : State) (b : BayId) (act : State → Position → State) : State :=
  (List.finRange 8).foldl (fun t p => if (s.bay b).fits p then act t p else t) s

/-- A bay enters Lost: every fitted fader is lost, the supply fault condition is cleared and BAY_LOST is raised
(R133, R136); the grant decision is made once all are dealt with. -/
def State.loseBay (s : State) (b : BayId) : State :=
  (((s.forFitted b fun t p => t.loseFader (faderAt b p)).modBay b fun x =>
    { x with state := .lost, missRun := 0, supplyFault := false }).raise .bayLost).arbitrate

/-- Every drive value of the bay's slots is set to 0 (R51, R71, R132). -/
def State.zeroDrives (s : State) (b : BayId) : State :=
  s.mapSlots fun sl => if bayOf sl.fader = b then { sl with drive := 0 } else sl

/-- A missed frame is taken by the bay's state (R132, R133). -/
def State.missFrame (s : State) (b : BayId) : State :=
  let t := s.zeroDrives b
  match (t.bay b).state with
  | .absent | .lost => t
  | .joining =>
    t.modBay b fun x =>
      { x with joinRun := 0, state := match x.origin with | .absent => .absent | .lost => .lost }
  | .present =>
    if Config.missLimit ≤ (t.bay b).missRun + 1 then t.loseBay b
    else t.modBay b fun x => { x with missRun := x.missRun + 1 }

/-- The window of a bay's last drive frame closes: a missed frame when it was not answered (R131). -/
def State.closeWindow (s : State) (b : BayId) : State :=
  let t := s.modBay b fun x => { x with window := .closed }
  if (s.bay b).window = .opened then t.missFrame b else t

/-! ### A good frame of a Present bay -/

/-- The fitted step of one position: a bit that went clear loses the fader, a bit that went set lets it enter (R137). -/
def State.fitPosition (s : State) (b : BayId) (was now : BitVec 8) (p : Position) : State :=
  match was.getLsbD p.val, now.getLsbD p.val with
  | true, false => s.loseFader (faderAt b p)
  | false, true => s.enterFader (faderAt b p)
  | _, _ => s

/-- The fitted step of a frame (R137). The positions whose bits changed are taken in order 0..7, which is the model's choice
(notes/assumptions/27.md). -/
def State.takeFitted (s : State) (b : BayId) (bytes : List Byte) : State :=
  let now := senseFitted bytes
  (((List.finRange 8).foldl (fun t p => t.fitPosition b (s.bay b).fitted now p) s).modBay b fun x =>
    { x with fitted := now }).arbitrate

/-- The supply step of a frame: a report that is not good sets the condition, raises SUPPLY_FAULT and ends the machine's
hold on the bay's faders (R138); a good report clears the condition (R139). -/
def State.takeSupply (s : State) (b : BayId) (bytes : List Byte) : State :=
  if senseSupplyGood bytes then s.modBay b fun x => { x with supplyFault := false, supplyGood := true }
  else
    let t := s.modBay b fun x => { x with supplyFault := true, supplyGood := false }
    if (s.bay b).supplyFault then t
    else ((t.raise .supplyFault).forFitted b fun u p => u.endService (faderAt b p) .supplyFault).arbitrate

/-- The setpoint of a homing in Down or Up holds the raw position of its fader's last good frame (R61). -/
def Slot.followRaw (sl : Slot) (raw : Nat) : Slot :=
  if sl.use = .homing ∧ sl.phase ≠ .park then { sl with setpoint := raw } else sl

/-- The slot of a fader, where it has one, follows a raw position (R61). -/
def State.followRaw (s : State) (f : FaderId) (raw : Nat) : State :=
  match s.slotFor f with
  | none => s
  | some (i, sl) => s.setSlot i (some (sl.followRaw raw))

/-- The present position of a fader is updated from a frame (R3), and with it the setpoint of its homing (R61), whether
or not that homing is served on the frame. -/
def State.takePosition (s : State) (f : FaderId) (raw : Nat) : State :=
  let c := s.calInForce f
  (s.modFader f fun x => { x with raw := raw, perMille := perMilleOfRaw c.1 c.2 raw, stale := false }).followRaw f raw

/-- The slot of a fader takes the frame, if the fader held it when the frame arrived (R44, R49). A slot granted since the last
expiry is served like any other; the drive computed here is then carried from its second drive frame on
(notes/assumptions/26.md). -/
def State.serveFader (s : State) (f : FaderId) (heldBefore : Bool) : State :=
  if heldBefore then
    match s.slotFor f with
    | none => s
    | some (i, sl) => s.serveSlot i sl
  else s

/-- A good frame of a Present bay is taken (R134): fitted bits, supply, positions (R3), touch (R72), servo and homing
(R49), and the moved-set test (R82). `arrival` is the state when the frame arrived. Within each step the faders of the bay
are taken in position order 0..7, so that is the order of their completions, stamps and grants; R45 asks for it where two
holds begin, and elsewhere it is the model's choice (notes/assumptions/27.md). -/
def State.takeFrame (s arrival : State) (b : BayId) (bytes : List Byte) : State :=
  let s1 := (s.modBay b fun x => { x with missRun := 0 }).takeFitted b bytes
  let s2 := s1.takeSupply b bytes
  let s3 := s2.forFitted b fun t p => t.takePosition (faderAt b p) (senseEntry bytes p).raw
  let s4 := s3.forFitted b fun t p => t.touchFrame (faderAt b p) (senseEntry bytes p).touch
  let s5 := s4.forFitted b fun t p => t.serveFader (faderAt b p) (arrival.slotFor (faderAt b p)).isSome
  s5.forFitted b fun t p =>
    t.movedTest (faderAt b p)
      ((arrival.slotFor (faderAt b p)).isSome || (arrival.fader (faderAt b p)).motion == .absent)

/-- A bay enters Present: its fitted mask is the frame's and its fitted faders leave Absent (R135). -/
def State.joinBay (s : State) (b : BayId) (bytes : List Byte) : State :=
  let t := s.modBay b fun x =>
    { x with
      state := .present, joinRun := 0, missRun := 0, supplyFault := false, fitted := senseFitted bytes }
  (t.forFitted b fun u p => u.enterFader (faderAt b p)).raise .bayJoined

/-- A good frame is taken by the bay's state (R133). -/
def State.takeGoodFrame (s : State) (b : BayId) (bytes : List Byte) : State :=
  let x := s.bay b
  match x.state with
  | .absent => s.modBay b fun x => { x with state := .joining, origin := .absent, joinRun := 1 }
  | .lost => s.modBay b fun x => { x with state := .joining, origin := .lost, joinRun := 1 }
  | .joining =>
    if Config.joinFrames ≤ x.joinRun + 1 then (s.joinBay b bytes).takeFrame s b bytes
    else s.modBay b fun x => { x with joinRun := x.joinRun + 1 }
  | .present => s.takeFrame s b bytes

/-- A frame is received on the link of a bay: the first good frame in an open window is taken, any other is discarded
without effect (R131). -/
def State.receiveFrame (s : State) (b : BayId) (bytes : List Byte) : State :=
  if (s.bay b).window = .opened ∧ goodFrame bytes (s.bay b).seq = true then
    (s.modBay b fun x => { x with window := .answered }).takeGoodFrame b bytes
  else s

/-! ### Drive frames -/

/-- The fader entry of a position: enable and the slot's drive value brought within the drive limit, or enable off and
drive 0 for a fader not in a slot (R51, R130). The first drive frame after a grant or a Home takeover carries drive 0 (R44, R61),
even where a good frame that came between has computed a drive value (notes/assumptions/26.md). -/
def State.driveEntry (s : State) (f : FaderId) : DriveEntry :=
  match s.slotFor f with
  | none => ⟨false, 0⟩
  | some (_, sl) =>
    let limit : Int := (s.fader f).setup.driveLimit
    ⟨true, if sl.framesSent = 0 then 0 else clampInt (-limit) limit sl.drive⟩

/-- The meter entry of a position: the meter's counts on a Present bay, dark otherwise (R127, R130). -/
def State.meterEntry (s : State) (b : BayId) (p : Position) : MeterEntry :=
  if (s.bay b).state = .present then
    let m := s.meter (faderAt b p)
    ⟨m.lit s.engine.scale, m.holdSegment s.engine.scale, m.overLatch⟩
  else ⟨0, 0, false⟩

/-- The drive frame of a bay at a frame expiry, with the next sequence number (R130, R131). -/
def State.driveFrame (s : State) (b : BayId) : DriveFrame :=
  { seq := (s.bay b).seq + 1
    faders := Vector.ofFn fun p => s.driveEntry (faderAt b p)
    meters := Vector.ofFn fun p => s.meterEntry b p }

/-- The slots of a bay's faders count a drive frame. -/
def State.countFrame (s : State) (b : BayId) : State :=
  s.mapSlots fun sl => if bayOf sl.fader = b then { sl with framesSent := sl.framesSent + 1 } else sl

/-- A drive frame is sent on the link of a bay, opening its sense window (R130, R131). -/
def State.sendFrame (s : State) (b : BayId) : State :=
  let fr := s.driveFrame b
  (s.countFrame b).modBay b fun x => { x with seq := fr.seq, window := .opened, sent := some fr }

/-- The two bytes of a fader entry (section 12.7). -/
def DriveEntry.bytes (e : DriveEntry) : List Byte :=
  [BitVec.ofNat 8 e.enable.toNat, BitVec.ofInt 8 e.drive]

/-- The two bytes of a meter entry (section 12.7). That bit 6 of the first, which no field has, is sent as 0 is the model's
choice (notes/assumptions/33.md). -/
def MeterEntry.bytes (e : MeterEntry) : List Byte :=
  [(BitVec.ofNat 6 e.lit).setWidth 8 ||| (BitVec.ofNat 8 e.overLight.toNat <<< 7), BitVec.ofNat 8 e.hold]

/-- The bytes of a drive frame after its start byte and before its check byte (section 12.7). -/
def DriveFrame.body (fr : DriveFrame) : List Byte :=
  fr.seq :: (fr.faders.toList.flatMap DriveEntry.bytes ++ fr.meters.toList.flatMap MeterEntry.bytes)

/-- The 35 bytes of a drive frame; the check byte makes the sum of every byte after the start byte 0 (R130,
section 12.7). -/
def DriveFrame.bytes (fr : DriveFrame) : List Byte :=
  Config.driveStart :: (fr.body ++ [-(byteSum fr.body)])

end Sys2Proof.Machine
end

