-- ==== Sys2Proof/Machine/Expiry.lean ====
section
/-! DEFINITION. The frame expiry and the events that fall due at one. FRAME_EXPIRY takes the whole expiry; each event row
takes its own part of the coming expiry first, when that expiry makes it due, and State.early records what was taken, so
that FRAME_EXPIRY takes the rest (notes/assumptions/1.md). -/

namespace Sys2Proof.Machine

/-! ### The events of the coming expiry, one at a time -/

/-- A slot has counted the coming expiry. -/
def State.countSlot (s : State) (i : SlotId) : State :=
  { s with early := { s.early with slots := s.early.slots.set i true } }

/-- A meter has taken the coming expiry. -/
def State.countMeter (s : State) (m : MeterId) : State :=
  { s with early := { s.early with meters := s.early.meters.set m true } }

/-- A slot event: when the expiry's count, not yet taken for the slot, makes the judged condition true, the slot is
counted and the event taken; otherwise nothing happens. -/
def State.slotEvent (s : State) (i : SlotId) (due : Slot → Bool) : State :=
  match s.slot i with
  | none => s
  | some sl =>
    if !s.early.slots[i] && due sl.tick then ((s.countSlot i).setSlot i (some sl.tick)).judgeSlot i else s

/-- The Releasing of a fader ends at the coming expiry, when that expiry brings its guard timer to 0 (R75, R80). -/
def State.guardEvent (s : State) (f : FaderId) : State :=
  let x := (s.fader f).tick
  if x.touch = .releasing ∧ x.guardTimer = 0 then s.endReleasing f else s

/-- A meter turns stale at the coming expiry, when that expiry brings its intake timer to the timeout; the meter's whole
share of the expiry is taken, once (R119, R128). -/
def State.meterEvent (s : State) (i : MeterId) : State :=
  if !s.early.meters[i] && (s.meter i).timesOut then (s.meterExpiry i).countMeter i else s

/-- The quiet interval ends at the coming expiry, when one frame is left that the expiry has not counted (R149). -/
def State.quietEvent (s : State) : State :=
  if !s.early.quiet && s.attn.quiet == 1 then
    { s with attn := { s.attn with quiet := 0 }, early := { s.early with quiet := true } }
  else s

/-- The advance of the coming expiry has reached a stage. -/
def State.setAdvance (s : State) (a : AdvanceStage) : State :=
  { s with early := { s.early with advance := a } }

/-- Whether another CUE_FIRING waits behind nothing but sense frames: the one case in which an advance stays open, for a sense
frame may be taken between two of its cues (R99) and nothing else may (R87, R97). -/
def firingFollows : List Instr → Bool
  | .cueFiring :: _ => true
  | .senseFrame _ _ :: rest => firingFollows rest
  | _ => false

/-- Cues of an advance fire: the first due one alone where another CUE_FIRING follows for the rest, else all (R97, R99). -/
def State.fireStage (s : State) : State :=
  let due := s.dueCues
  if firingFollows s.pending then
    (s.fireCues (due.take 1)).setAdvance (if due.length ≤ 1 then .taken else .firing)
  else (s.fireCues due).setAdvance .taken

/-- CUE_FIRING: the advance of the coming expiry is taken when it fires any cue in Running, or goes on with the cues left of it;
an advance that is whole is not taken again (R87, R97, R98). -/
def State.cueEvent (s : State) : State :=
  match s.early.advance with
  | .taken => s
  | .firing => s.fireStage
  | .coming => if s.tickSurface.dueCues.isEmpty then s else s.tickSurface.fireStage

/-- A window closes unanswered before the coming expiry's drive frame (R131, R132). -/
def State.windowEvent (s : State) (b : BayId) : State :=
  if (s.bay b).window = .opened then s.closeWindow b else s

/-! ### The whole expiry -/

/-- The slots' counts of a frame expiry, but for the slots that have taken theirs. -/
def State.tickSlots (s : State) : State :=
  { s with table := { s.table with
      slots := Vector.ofFn fun i => if s.early.slots[i] then s.table.slots[i] else (s.table.slots[i]).map Slot.tick } }

/-- The quiet interval counts a frame expiry, unless it has counted this one (R149). -/
def State.tickQuiet (s : State) : State :=
  { s with attn := { s.attn with quiet := if s.early.quiet then s.attn.quiet else s.attn.quiet - 1 } }

/-- The per-frame counters advance: slot ages and timers (R54, R55, R65), guard timers (R75) and the quiet interval
(R149). -/
def State.tickCounters (s : State) : State :=
  (s.tickSlots.mapFaders fun _ x => x.tick).tickQuiet

/-- A frame expiry advances surface time and fires the cues due at it, as far as that is not taken already (R87, R97). -/
def State.advanceShare (s : State) : State :=
  match s.early.advance with
  | .coming => s.advanceTime
  | .firing => s.fireDue
  | .taken => s

/-- A frame expiry takes one meter, unless it has taken it already (R119). -/
def State.meterShare (s : State) (i : MeterId) : State :=
  if s.early.meters[i] then s else s.meterExpiry i

/-- A frame expiry takes every meter in turn (R119). -/
def State.metersExpiry (s : State) : State :=
  (List.finRange 48).foldl State.meterShare s

/-- The expiry is whole: nothing is taken of the next one. -/
def State.endExpiry (s : State) : State :=
  { s with early := EarlyShare.none }

/-- The whole of a frame expiry: counters, windows (R131, R132), what the counters end in slot and fader order, surface
time and cues, meters (R119), and then a drive frame on each link (R130). The order among the blocks is the model's
where no rule gives it (notes/assumptions/1.md). -/
def State.expire (s : State) : State :=
  let s1 := s.tickCounters
  let s2 := (List.finRange 6).foldl State.closeWindow s1
  let s3 := (List.finRange 16).foldl State.judgeSlot s2
  let s4 := (List.finRange 48).foldl State.judgeGuard s3
  let s5 := s4.advanceShare
  let s6 := s5.metersExpiry
  ((List.finRange 6).foldl State.sendFrame s6).endExpiry

/-! ### The meanings -/

/-- An event of the part's own blocks is taken only while RESET is not asserted (R131, R141, R154). -/
def State.unlessReset (s : State) (act : State → State) : State :=
  if s.bus.inReset then s else act s

/-- FRAME_EXPIRY (R131): no expiry occurs while RESET is asserted (R141). -/
def execFrameExpiry (s : State) : Host.Outcome State Fault Refusal :=
  (s.unlessReset State.expire).done

/-- CUE_FIRING (R98). -/
def execCueFiring (s : State) : Host.Outcome State Fault Refusal :=
  (s.unlessReset State.cueEvent).done

/-- INTAKE_TIMEOUT (R119). -/
def execIntakeTimeout (m : MeterId) (s : State) : Host.Outcome State Fault Refusal :=
  (s.unlessReset fun t => t.meterEvent m).done

/-- MOVE_TIMEOUT (R54). -/
def execMoveTimeout (i : SlotId) (s : State) : Host.Outcome State Fault Refusal :=
  (s.unlessReset fun t => t.slotEvent i fun sl => sl.moveTimedOut t.setup).done

/-- PARK_TIMEOUT (R68). -/
def execParkTimeout (i : SlotId) (s : State) : Host.Outcome State Fault Refusal :=
  (s.unlessReset fun t => t.slotEvent i fun sl => sl.parkTimedOut t.setup).done

/-- HOLD_EXPIRY (R55). -/
def execHoldExpiry (i : SlotId) (s : State) : Host.Outcome State Fault Refusal :=
  (s.unlessReset fun t => t.slotEvent i Slot.holdExpired).done

/-- HOME_LIMIT_EXCEEDED (R65). -/
def execHomeLimitExceeded (i : SlotId) (s : State) : Host.Outcome State Fault Refusal :=
  (s.unlessReset fun t => t.slotEvent i fun sl => sl.homeLimitPassed t.setup).done

/-- RELEASING_END (R75, R80). -/
def execReleasingEnd (f : FaderId) (s : State) : Host.Outcome State Fault Refusal :=
  (s.unlessReset fun t => t.guardEvent f).done

/-- QUIET_INTERVAL_END (R149). -/
def execQuietIntervalEnd (s : State) : Host.Outcome State Fault Refusal :=
  (s.unlessReset State.quietEvent).done

/-- MISSED_FRAME (R132). -/
def execMissedFrame (b : BayId) (s : State) : Host.Outcome State Fault Refusal :=
  (s.unlessReset fun t => t.windowEvent b).done

/-- SENSE_FRAME (R131, R134): a frame received while RESET is asserted finds no open window. -/
def execSenseFrame (b : BayId) (bytes : List Byte) (s : State) : Host.Outcome State Fault Refusal :=
  (s.unlessReset fun t => t.receiveFrame b bytes).done

/-- SLOT_GRANT (R43). -/
def execSlotGrant (s : State) : Host.Outcome State Fault Refusal :=
  (s.unlessReset fun t => t.grantStep.getD t).done

/-- PRE_EMPTION (R45). -/
def execPreEmption (s : State) : Host.Outcome State Fault Refusal :=
  (s.unlessReset fun t => t.preemptStep.getD t).done

end Sys2Proof.Machine
end

