-- ==== Sys2Proof/Machine/ImageMap.lean ====
section
/-! DEFINITION. The surface image: its words, their offsets and classes (R155, section 12.1, 12.2 and 12.4), in both
directions. -/

namespace Sys2Proof.Machine

/-- A word of the surface image that chapter 12 names. -/
inductive ImageWord where
  | command (c : CommandWord)
  | setup (w : SetupWord)
  | slotLimit
  | surfaceTime
  | quiet
  | staging (w : StagingWord)
  | motionStatus
  | cueStatus
  | nextDue
  | historyFirst
  | historySecond
  | portA
  | portB
  | depth
  | attention
  | lastRefusal
  | moved (h : MovedHalf)
  | slotStatus (i : SlotId)
  | bayStatus (b : BayId)
  | target (f : FaderId)
  | presentGain (f : FaderId)
  | presentPosition (f : FaderId)
  | faderState (f : FaderId)
  | pendingA (f : FaderId)
  | pendingB (f : FaderId)
  | targetPosition (f : FaderId)
  | calibration (f : FaderId)
  | faderTag (f : FaderId)
  | control (f : FaderId)
  | controlAlias (k : AliasKind) (f : FaderId)
  | intake (m : MeterId)
  | readout1 (m : MeterId)
  | readout2 (m : MeterId)
  deriving DecidableEq, Repr

/-- The offset of a word in the block of fader `f` (section 12.1, 12.2). -/
def faderOffset (f : FaderId) (k : Nat) : Nat :=
  0x1000 + 0x40 * f.val + k

/-- The offset of a word in the block of meter `m` (section 12.1, 12.4). -/
def meterOffset (m : MeterId) (k : Nat) : Nat :=
  0x2000 + 0x20 * m.val + k

/-- The offset of a command word. -/
def commandOffset : CommandWord → Nat
  | .runControl => 0x000
  | .faderCommand f => faderOffset f 0x3C
  | .cueArm => 0x044
  | .cueCancel => 0x048
  | .recallCommit => 0x04C
  | .taperCommit => 0x058
  | .scaleCommit => 0x05C
  | .acknowledge => 0x080

/-- The offset of a setup word. -/
def setupOffset : SetupWord → Nat
  | .stallSetup => 0x00C
  | .moveLimit => 0x010
  | .homingA => 0x014
  | .homingB => 0x018
  | .touchSetup => 0x01C
  | .cutPosition => 0x020
  | .lateLimit => 0x024
  | .levelsFirst => 0x070
  | .levelsSecond => 0x074
  | .attentionControl => 0x078
  | .faderA f => faderOffset f 0x34
  | .faderB f => faderOffset f 0x38
  | .meterA m => meterOffset m 0x04
  | .meterB m => meterOffset m 0x08
  | .meterC m => meterOffset m 0x0C

/-- The offset of a staging word. -/
def stagingOffset : StagingWord → Nat
  | .cueTag => 0x034
  | .cueDue => 0x038
  | .cueGain => 0x03C
  | .cueGuard => 0x040
  | .taperCount => 0x200
  | .taperPoint k => 0x204 + 4 * k.val
  | .scaleThreshold i => 0x280 + 4 * i.val
  | .recallPair j => 0x400 + 4 * j.val

/-- The offset of an alias of a control word (section 12.2). -/
def aliasOffset (k : AliasKind) (f : FaderId) : Nat :=
  match k with
  | .set => faderOffset f 0x28
  | .clear => faderOffset f 0x2C
  | .toggle => faderOffset f 0x30

/-- The byte offset of a word from the image base (section 12.1, 12.2, 12.4). -/
def ImageWord.offset : ImageWord → Nat
  | .command c => commandOffset c
  | .setup w => setupOffset w
  | .slotLimit => 0x008
  | .surfaceTime => 0x028
  | .quiet => 0x07C
  | .staging w => stagingOffset w
  | .motionStatus => 0x004
  | .cueStatus => 0x02C
  | .nextDue => 0x030
  | .historyFirst => 0x050
  | .historySecond => 0x054
  | .portA => 0x060
  | .portB => 0x064
  | .depth => 0x068
  | .attention => 0x06C
  | .lastRefusal => 0x084
  | .moved .low => 0x088
  | .moved .high => 0x08C
  | .slotStatus i => 0x100 + 4 * i.val
  | .bayStatus b => 0x140 + 4 * b.val
  | .target f => faderOffset f 0x00
  | .presentGain f => faderOffset f 0x04
  | .presentPosition f => faderOffset f 0x08
  | .faderState f => faderOffset f 0x0C
  | .pendingA f => faderOffset f 0x10
  | .pendingB f => faderOffset f 0x14
  | .targetPosition f => faderOffset f 0x18
  | .calibration f => faderOffset f 0x1C
  | .faderTag f => faderOffset f 0x20
  | .control f => faderOffset f 0x24
  | .controlAlias k f => aliasOffset k f
  | .intake m => meterOffset m 0x00
  | .readout1 m => meterOffset m 0x10
  | .readout2 m => meterOffset m 0x14

/-- A number as an index below `n`, none when it is not one. -/
def index? (n k : Nat) : Option (Fin n) :=
  if h : k < n then some ⟨k, h⟩ else none

/-- The word at word index `w` (offset 4 * w) of the control block's first part, offsets 0x000 .. 0x08C. -/
def lowWordAt (w : Nat) : Option ImageWord :=
  match w with
  | 0 => some (.command .runControl)
  | 1 => some .motionStatus
  | 2 => some .slotLimit
  | 3 => some (.setup .stallSetup)
  | 4 => some (.setup .moveLimit)
  | 5 => some (.setup .homingA)
  | 6 => some (.setup .homingB)
  | 7 => some (.setup .touchSetup)
  | 8 => some (.setup .cutPosition)
  | 9 => some (.setup .lateLimit)
  | 10 => some .surfaceTime
  | 11 => some .cueStatus
  | 12 => some .nextDue
  | 13 => some (.staging .cueTag)
  | 14 => some (.staging .cueDue)
  | 15 => some (.staging .cueGain)
  | 16 => some (.staging .cueGuard)
  | 17 => some (.command .cueArm)
  | 18 => some (.command .cueCancel)
  | 19 => some (.command .recallCommit)
  | 20 => some .historyFirst
  | 21 => some .historySecond
  | 22 => some (.command .taperCommit)
  | 23 => some (.command .scaleCommit)
  | 24 => some .portA
  | 25 => some .portB
  | 26 => some .depth
  | 27 => some .attention
  | 28 => some (.setup .levelsFirst)
  | 29 => some (.setup .levelsSecond)
  | 30 => some (.setup .attentionControl)
  | 31 => some .quiet
  | 32 => some (.command .acknowledge)
  | 33 => some .lastRefusal
  | 34 => some (.moved .low)
  | 35 => some (.moved .high)
  | _ => none

/-- The word at word index `k` of a fader block (section 12.2). -/
def faderWordAt (f : FaderId) (k : Nat) : Option ImageWord :=
  match k with
  | 0 => some (.target f)
  | 1 => some (.presentGain f)
  | 2 => some (.presentPosition f)
  | 3 => some (.faderState f)
  | 4 => some (.pendingA f)
  | 5 => some (.pendingB f)
  | 6 => some (.targetPosition f)
  | 7 => some (.calibration f)
  | 8 => some (.faderTag f)
  | 9 => some (.control f)
  | 10 => some (.controlAlias .set f)
  | 11 => some (.controlAlias .clear f)
  | 12 => some (.controlAlias .toggle f)
  | 13 => some (.setup (.faderA f))
  | 14 => some (.setup (.faderB f))
  | 15 => some (.command (.faderCommand f))
  | _ => none

/-- The word at word index `k` of a meter block (section 12.4): offsets 0x18 and 0x1C are undefined. -/
def meterWordAt (m : MeterId) (k : Nat) : Option ImageWord :=
  match k with
  | 0 => some (.intake m)
  | 1 => some (.setup (.meterA m))
  | 2 => some (.setup (.meterB m))
  | 3 => some (.setup (.meterC m))
  | 4 => some (.readout1 m)
  | 5 => some (.readout2 m)
  | _ => none

/-- The word at an offset of the image, none for an offset that chapter 12 does not name: such a word is undefined and is
plain memory (R155). -/
def wordAt (offset : Nat) : Option ImageWord :=
  let w := offset / 4
  if w < 0x40 then lowWordAt w
  else if w < 0x50 then (index? 16 (w - 0x40)).map .slotStatus
  else if w < 0x80 then (index? 6 (w - 0x50)).map .bayStatus
  else if w = 0x80 then some (.staging .taperCount)
  else if w < 0xA0 then (index? 16 (w - 0x81)).map fun k => .staging (.taperPoint k)
  else if w < 0x100 then (index? 32 (w - 0xA0)).map fun i => .staging (.scaleThreshold i)
  else if w < 0x400 then (index? 48 (w - 0x100)).map fun j => .staging (.recallPair j)
  else if w < 0x800 then (index? 48 ((w - 0x400) / 16)).bind fun f => faderWordAt f ((w - 0x400) % 16)
  else (index? 48 ((w - 0x800) / 8)).bind fun m => meterWordAt m ((w - 0x800) % 8)

/-- The classes of words (R155). -/
inductive WordClass where
  | setup
  | target
  | staging
  | aliased
  | command
  | live
  | removing
  deriving DecidableEq, Repr

/-- The class of a word (R155). -/
def ImageWord.wordClass : ImageWord → WordClass
  | .command _ => .command
  | .setup _ | .slotLimit | .surfaceTime | .quiet | .control _ | .intake _ => .setup
  | .staging _ => .staging
  | .target _ => .target
  | .controlAlias _ _ => .aliased
  | .portB | .moved _ | .readout2 _ => .removing
  | .motionStatus | .cueStatus | .nextDue | .historyFirst | .historySecond | .portA | .depth | .attention | .lastRefusal
  | .slotStatus _ | .bayStatus _ | .presentGain _ | .presentPosition _ | .faderState _ | .pendingA _ | .pendingB _
  | .targetPosition _ | .calibration _ | .faderTag _ | .readout1 _ => .live

/-! ### The bus form of a command -/

/-- The access that a bus write command is: the word it reaches and the lanes written. None for the commands that are no
write to a named word. -/
def busForm (c : Instr) : Option (ImageWord × Lanes) :=
  match c with
  | .targetWrite f w => some (.target f, w)
  | .controlWrite f w => some (.control f, w)
  | .setAlias f w => some (.controlAlias .set f, w)
  | .clearAlias f w => some (.controlAlias .clear f, w)
  | .toggleAlias f w => some (.controlAlias .toggle f, w)
  | .levelIntake m w => some (.intake m, w)
  | .surfaceTimeSet w => some (.surfaceTime, w)
  | .slotLimitWrite w => some (.slotLimit, w)
  | .quietWrite w => some (.quiet, w)
  | .setupWrite sw w => some (.setup sw, w)
  | .stagingWrite st w => some (.staging st, w)
  | .stop u => some (.command .runControl, u.withCode 1)
  | .resume u => some (.command .runControl, u.withCode 2)
  | .restart u => some (.command .runControl, u.withCode 3)
  | .home f u => some (.command (.faderCommand f), u.withCode 1)
  | .release f u => some (.command (.faderCommand f), u.withCode 2)
  | .cueArm u => some (.command .cueArm, u.withCode 0x5A)
  | .cueCancel u => some (.command .cueCancel, u.withCode 0x3C)
  | .commit u => some (.command .recallCommit, u.withCode 0xC1)
  | .undo u => some (.command .recallCommit, u.withCode 0xD0)
  | .taperCommit u => some (.command .taperCommit, u.withCode 0x7E)
  | .scaleCommit u => some (.command .scaleCommit, u.withCode 0x7F)
  | .acknowledge n u => some (.command .acknowledge, u.withCode n)
  | .unknownCommand cw code u => some (.command cw, u.withCode code)
  | .reset | .resetRelease _ | .frameExpiry | .cueFiring | .intakeTimeout _ | .moveTimeout _ | .parkTimeout _
  | .holdExpiry _ | .homeLimitExceeded _ | .releasingEnd _ | .quietIntervalEnd | .missedFrame _ | .senseFrame _ _
  | .slotGrant | .preEmption | .wordWrite _ _ | .presentGainRead _ | .portARead | .portBRead | .movedWordRead _
  | .readout2Read _ => none

/-- The command that a write of a code to a command word is, none for the no-command code 0, which is ignored
(R31, R36, R92, R95, R105, R123, R148, R157). -/
def commandOf (cw : CommandWord) (code : Byte) (u : UpperLanes) : Option Instr :=
  if code = 0 then none
  else
    match cw with
    | .runControl =>
      if code = 1 then some (.stop u)
      else if code = 2 then some (.resume u)
      else if code = 3 then some (.restart u)
      else some (.unknownCommand cw code u)
    | .faderCommand f =>
      if code = 1 then some (.home f u)
      else if code = 2 then some (.release f u)
      else some (.unknownCommand cw code u)
    | .cueArm => if code = 0x5A then some (.cueArm u) else some (.unknownCommand cw code u)
    | .cueCancel => if code = 0x3C then some (.cueCancel u) else some (.unknownCommand cw code u)
    | .recallCommit =>
      if code = 0xC1 then some (.commit u)
      else if code = 0xD0 then some (.undo u)
      else some (.unknownCommand cw code u)
    | .taperCommit => if code = 0x7E then some (.taperCommit u) else some (.unknownCommand cw code u)
    | .scaleCommit => if code = 0x7F then some (.scaleCommit u) else some (.unknownCommand cw code u)
    | .acknowledge => if code.toNat ≤ 10 then some (.acknowledge code u) else some (.unknownCommand cw code u)

/-- The command that a write to a named word is; none where the part takes nothing from the write: a live or removing
word, or the no-command code (R155, R157). -/
def writeOf (word : ImageWord) (w : Lanes) : Option Instr :=
  match word with
  | .target f => some (.targetWrite f w)
  | .control f => some (.controlWrite f w)
  | .controlAlias .set f => some (.setAlias f w)
  | .controlAlias .clear f => some (.clearAlias f w)
  | .controlAlias .toggle f => some (.toggleAlias f w)
  | .intake m => some (.levelIntake m w)
  | .surfaceTime => some (.surfaceTimeSet w)
  | .slotLimit => some (.slotLimitWrite w)
  | .quiet => some (.quietWrite w)
  | .setup sw => some (.setupWrite sw w)
  | .staging st => some (.stagingWrite st w)
  | .command cw => commandOf cw (w.lane0.getD 0) ⟨w.lane1, w.lane2, w.lane3⟩
  | .motionStatus | .cueStatus | .nextDue | .historyFirst | .historySecond | .portA | .portB | .depth | .attention
  | .lastRefusal | .moved _ | .slotStatus _ | .bayStatus _ | .presentGain _ | .presentPosition _ | .faderState _
  | .pendingA _ | .pendingB _ | .targetPosition _ | .calibration _ | .faderTag _ | .readout1 _ | .readout2 _ => none

end Sys2Proof.Machine
end

