-- ==== Sys2Proof/Machine/Overlay.lean ====
section
/-! DEFINITION. What a read of each word of the surface image returns (R155, R159): the setup values in force, the live
words (R22, R30, R48, R101, R110, R125, R140, R146, R151, R152), and the completion port (R144, R145). -/

namespace Sys2Proof.Machine

/-! ### The live words of a fader (section 12.2) -/

/-- The present position word (R3). -/
def Fader.positionWord (x : Fader) : Word :=
  putNat 0 12 x.raw ||| putNat 16 10 x.perMille ||| putFlag 31 x.stale

/-- The state word (R2). -/
def Fader.stateWord (x : Fader) : Word :=
  putNat 0 4 x.motion.code ||| putNat 4 2 x.touch.code ||| putFlag 8 x.inhibit ||| putFlag 9 x.latched
    ||| putFlag 10 x.offTarget ||| putFlag 11 x.rangeClamped ||| putFlag 12 x.roundedUp

/-- The first pending target word: 0 in every field without a pending target (section 12.2). -/
def Fader.pendingWordA (x : Fader) : Word :=
  match x.pendingTarget with
  | none => 0
  | some p =>
    putInt 0 16 p.gain.code ||| putNat 16 2 p.cls.code ||| putFlag 18 p.marks.late ||| putFlag 19 p.marks.undo
      ||| putFlag 31 true

/-- The second pending target word (section 12.2). -/
def Fader.pendingWordB (x : Fader) : Word :=
  match x.pendingTarget with
  | none => 0
  | some p => putNat 0 16 p.tag.toNat ||| putNat 16 13 p.ramp

/-- The target position word. -/
def Fader.targetPositionWord (x : Fader) : Word :=
  putNat 0 10 x.targetPos

/-- The calibration word (R58). -/
def Calibration.word (c : Calibration) : Word :=
  putNat 0 12 c.low ||| putNat 12 12 c.high ||| putFlag 24 c.calibrated ||| putFlag 25 c.latched
    ||| putNat 28 3 c.cause.code

/-- The tag word (R8). -/
def Fader.tagWord (x : Fader) : Word :=
  putNat 0 16 x.tag.toNat ||| putNat 16 2 x.cls.code

/-- The present gain word (R4). -/
def State.presentGainWord (s : State) (f : FaderId) : Word :=
  putInt 0 16 (s.presentGain f).code

/-- The target word: the target gain in force (R14). -/
def Fader.targetWord (x : Fader) : Word :=
  putInt 0 16 x.targetGain.code

/-- The snapshot of a fader's live words (R22). -/
def State.snapshotOf (s : State) (f : FaderId) : Snapshot :=
  let x := s.fader f
  { fader := f, position := x.positionWord, state := x.stateWord, pendingA := x.pendingWordA, pendingB := x.pendingWordB,
    targetPosition := x.targetPositionWord, calibration := x.cal.word, tag := x.tagWord }

/-- A live word of a fader that the snapshot covers: the copied value for the snapshot's fader, else the live value
(R22). -/
def State.covered (s : State) (f : FaderId) (copied : Snapshot → Word) (live : Word) : Word :=
  match s.bus.snapshot with
  | none => live
  | some n => if n.fader = f then copied n else live

/-! ### The live words of the control block (section 12.3) -/

/-- The motion status word (R30). -/
def State.motionStatusWord (s : State) : Word :=
  let counts :=
    putNat 0 1 s.queue.run.code ||| putNat 1 6 s.queue.entries.length ||| putNat 8 5 s.occupied
  match s.queue.entries with
  | [] => counts
  | e :: _ =>
    counts ||| putNat 16 6 e.fader.val ||| putNat 22 1 e.kind.code ||| putNat 24 2 e.cls.code ||| putFlag 31 true

/-- The drive value most recently placed in a drive frame for a fader (R48). -/
def State.sentDrive (s : State) (f : FaderId) : Int :=
  match (s.bay (bayOf f)).sent with
  | none => 0
  | some fr => (fr.faders[positionOf f]).drive

/-- A slot status word (R48). -/
def State.slotStatusWord (s : State) (i : SlotId) : Word :=
  match s.slot i with
  | none => 0
  | some sl =>
    let phase := if sl.use = .homing then sl.phase.code else 0
    putInt 0 8 (s.sentDrive sl.fader) ||| putNat 8 12 sl.setpoint ||| putNat 20 6 sl.fader.val
      ||| putNat 26 2 sl.use.code ||| putNat 28 2 phase ||| putFlag 31 true

/-- The cue status word (R101). -/
def State.cueStatusWord (s : State) : Word :=
  match s.cues.cues with
  | [] => 0
  | c :: _ =>
    putNat 0 9 s.cues.cues.length ||| putFlag 9 true ||| putNat 10 6 c.fader.val ||| putNat 16 16 c.tag.toNat

/-- The next due word (R101). -/
def State.nextDueWord (s : State) : Word :=
  match s.cues.cues with
  | [] => 0
  | c :: _ => c.due

/-- The first history status word (R110). -/
def State.historyFirstWord (s : State) : Word :=
  let depth := putNat 0 3 s.recalls.history.length
  match s.recalls.history with
  | [] => depth
  | e :: _ => depth ||| putNat 16 16 e.number.toNat

/-- The second history status word (R110). -/
def State.historySecondWord (s : State) : Word :=
  putNat 0 16 s.recalls.number.toNat

/-- The depth word (R146). -/
def State.depthWord (s : State) : Word :=
  putNat 0 6 s.completions.length

/-- The attention word (R151). -/
def State.attentionWord (s : State) : Word :=
  putNat 0 4 s.attentionSource ||| putNat 8 4 (s.attn.level s.attentionSource)

/-- The last refusal word (R152). -/
def State.lastRefusalWord (s : State) : Word :=
  putNat 0 8 s.attn.lastRefusal.code

/-- A bay status word (R140). -/
def Bay.statusWord (x : Bay) : Word :=
  putNat 0 2 x.state.code ||| putNat 4 4 x.joinRun ||| putNat 8 2 x.missRun ||| putNat 16 8 x.fitted.toNat
    ||| putFlag 24 x.supplyFault ||| putFlag 25 x.supplyGood

/-- Port word A: the head's first half, or the not-valid word (R144). -/
def State.portAWord (s : State) : Word :=
  match s.completions with
  | [] => 0
  | c :: _ =>
    putNat 0 6 c.fader.val ||| putNat 8 4 c.outcome.code ||| putNat 12 2 c.cause.code ||| putNat 14 2 c.cls.code
      ||| putFlag 16 c.repeated ||| putFlag 17 c.marks.late ||| putFlag 18 c.marks.undo ||| putFlag 31 true

/-- Port word B: the head's second half, with the taken indication when the head is opened (R145). -/
def State.portBWord (s : State) : Word :=
  match s.completions with
  | [] => 0
  | c :: _ => putNat 0 16 c.tag.toNat ||| putNat 16 10 c.final ||| putFlag 31 c.opened

/-- Whether a fader lies in the range of a moved word (R83). -/
def movedCovers (h : MovedHalf) (f : FaderId) : Bool :=
  match h with
  | .low => decide (f.val < 32)
  | .high => decide (32 ≤ f.val)

/-- A moved word: one indication per fader of its range (R83). -/
def State.movedWord (s : State) (h : MovedHalf) : Word :=
  (List.finRange 48).foldl
    (fun acc f => if movedCovers h f then acc ||| putFlag (f.val % 32) (s.fader f).moved else acc) 0

/-- The first readout word of a meter (R125). -/
def Meter.readoutWord1 (m : Meter) : Word :=
  putInt 0 16 m.level ||| putInt 16 16 m.hold

/-- The second readout word of a meter (R126). -/
def Meter.readoutWord2 (m : Meter) (scale : List Int) : Word :=
  putNat 0 6 (m.lit scale) ||| putNat 8 6 (m.holdSegment scale) ||| putFlag 16 m.overLatch ||| putFlag 17 m.stale

/-! ### Setup words in force -/

/-- The word that holds the values in force of a setup word (R156, section 12.3). -/
def State.setupWordValue (s : State) (w : SetupWord) : Word :=
  match w with
  | .stallSetup => s.setup.stallWord
  | .moveLimit => s.setup.moveLimitWord
  | .homingA => s.setup.homingWordA
  | .homingB => s.setup.homingWordB
  | .touchSetup => s.setup.touchWord
  | .cutPosition => putNat 0 8 s.law.cut
  | .lateLimit => putNat 0 16 s.cues.lateLimit
  | .levelsFirst => levelsWord s.attn.levels
  | .levelsSecond => hardLevelsWord
  | .attentionControl => putNat 0 4 s.attn.threshold
  | .faderA f => (s.fader f).setup.wordA
  | .faderB f => (s.fader f).setup.wordB
  | .meterA m => (s.meter m).setup.wordA
  | .meterB m => (s.meter m).setup.wordB
  | .meterC m => (s.meter m).setup.wordC

/-- The level intake word: the last intake (R115). -/
def Meter.intakeWord (m : Meter) : Word :=
  putInt 0 16 m.lastIntake

/-- The value the part returns in place of memory's data for a read of a word; none for a staging word, whose read is not
overlaid (R155, R159). -/
def State.overlay (s : State) (w : ImageWord) : Option Word :=
  match w with
  | .staging _ => none
  | .command _ => some 0
  | .setup sw => some (s.setupWordValue sw)
  | .slotLimit => some (putNat 0 8 s.table.limit)
  | .surfaceTime => some s.cues.surface
  | .quiet => some (putNat 0 16 s.attn.quiet)
  | .motionStatus => some s.motionStatusWord
  | .cueStatus => some s.cueStatusWord
  | .nextDue => some s.nextDueWord
  | .historyFirst => some s.historyFirstWord
  | .historySecond => some s.historySecondWord
  | .portA => some s.portAWord
  | .portB => some s.portBWord
  | .depth => some s.depthWord
  | .attention => some s.attentionWord
  | .lastRefusal => some s.lastRefusalWord
  | .moved h => some (s.movedWord h)
  | .slotStatus i => some (s.slotStatusWord i)
  | .bayStatus b => some (s.bay b).statusWord
  | .target f => some (s.fader f).targetWord
  | .presentGain f => some (s.presentGainWord f)
  | .presentPosition f => some (s.covered f Snapshot.position (s.fader f).positionWord)
  | .faderState f => some (s.covered f Snapshot.state (s.fader f).stateWord)
  | .pendingA f => some (s.covered f Snapshot.pendingA (s.fader f).pendingWordA)
  | .pendingB f => some (s.covered f Snapshot.pendingB (s.fader f).pendingWordB)
  | .targetPosition f => some (s.covered f Snapshot.targetPosition (s.fader f).targetPositionWord)
  | .calibration f => some (s.covered f Snapshot.calibration (s.fader f).cal.word)
  | .faderTag f => some (s.covered f Snapshot.tag (s.fader f).tagWord)
  | .control f => some (s.fader f).control.toWord
  | .controlAlias _ f => some (s.fader f).control.toWord
  | .intake m => some (s.meter m).intakeWord
  | .readout1 m => some (s.meter m).readoutWord1
  | .readout2 m => some ((s.meter m).readoutWord2 s.engine.scale)

/-! ### The bus -/

/-- The image base fixed by the straps (R154). -/
def State.imageBase (s : State) : Nat :=
  s.bus.imageSel.toNat * 65536

/-- The byte address of a word of the image. -/
def State.addressOf (s : State) (w : ImageWord) : Nat :=
  s.imageBase + w.offset

/-- The word of the image that a byte address falls in; none outside the image, in an undefined word, and while RESET is
asserted (R154, R155). -/
def State.wordAtAddress (s : State) (addr : Nat) : Option ImageWord :=
  if s.bus.inReset then none
  else if s.imageBase ≤ addr ∧ addr < s.imageBase + 65536 then wordAt (addr - s.imageBase) else none

/-- What a read at a byte address returns: the part's overlaid value on all four lanes, or memory's data (R155, R159). -/
def State.busRead (s : State) (addr : Nat) : Lanes :=
  match (s.wordAtAddress addr).bind s.overlay with
  | some v => Lanes.full v
  | none => Memory.readLanes s.mem (addr - addr % 4)

end Sys2Proof.Machine
end

