-- ==== Sys2Proof/Machine/RunControl.lean ====
section
/-! DEFINITION. The run control commands Stop, Resume and Restart (R37 to R39), the fader commands Home and Release
(R32 to R34), inhibit (R35), and RESET with its release (R40, R154). -/

namespace Sys2Proof.Machine

/-! ### Stop and Resume -/

/-- A slot that is occupied is freed with outcome Stopped (R37, step 1). -/
def State.stopSlot (s : State) (i : SlotId) : State :=
  match s.slot i with
  | none => s
  | some sl => s.endUse i sl .stopped

/-- Every occupied slot in slot number order, then every entry in queue order, ends Stopped (R37). -/
def State.stopMotion (s : State) : State :=
  let t := (List.finRange 16).foldl State.stopSlot s
  t.queue.entries.foldl (fun u e => u.leaveQueue e.fader .stopped) t

/-- A Stop command: in Running it makes the run state Stopped and ends every motion; in Stopped it changes nothing
(R37). -/
def State.stopCommand (s : State) : State :=
  match s.queue.run with
  | .stopped => s
  | .running => State.stopMotion { s with queue := { s.queue with run := .stopped } }

/-- A Resume command (R38). -/
def State.resumeCommand (s : State) : State :=
  { s with queue := { s.queue with run := .running } }

/-! ### Restart -/

/-- The motion state of a fader after Restart (R23): from its calibration record when it was in the queue or a slot. -/
def Fader.restartMotion (x : Fader) : MotionState :=
  match x.motion with
  | .waiting | .moving | .holding | .homing => x.cal.motion
  | .absent | .unhomed | .idle | .faulted => x.motion

/-- A fader's record after Restart, its present per-mille already under the calibration record (R23, R84, R86). -/
def Fader.restart (x : Fader) (law : GainLaw) : Fader :=
  { x with
    targetGain := gainOfPerMille law x.perMille
    targetPos := x.perMille
    pendingTarget := none
    inhibit := false
    offTarget := false
    rangeClamped := false
    roundedUp := false
    motion := x.restartMotion
    touch := .untouched
    touchRun := 0
    releaseRun := 0
    guardTimer := 0
    lastReported := gainOfPerMille law x.perMille
    moved := false }

/-- The present per-mille of a fader that was Homing in Park returns to the calibration record (R23, R70). -/
def State.unparkedPerMille (s : State) (f : FaderId) : Nat :=
  let x := s.fader f
  match s.slotFor f with
  | none => x.perMille
  | some (_, sl) =>
    if sl.use = .homing ∧ sl.phase = .park then perMilleOfRaw x.cal.low x.cal.high x.raw else x.perMille

/-- A Restart command, in either run state: motion and automation emptied with no completion, targets where the faders
stand, setup kept (R23, R39, R57, R84, R86, R103, R113, R129, R146, R149, R153). -/
def State.restartCommand (s : State) : State :=
  let t := s.mapFaders fun f x => { x with perMille := s.unparkedPerMille f }.restart s.law
  { t with
    bus := { t.bus with snapshot := none }
    queue := { t.queue with run := .running, entries := [] }
    table := { t.table with slots := Vector.replicate 16 none }
    cues := { t.cues with cues := [] }
    recalls := { t.recalls with history := [] }
    engine := { t.engine with meters := t.engine.meters.map Meter.restart }
    completions := []
    attn := { t.attn with quiet := 0, events := EventFlags.clear } }

/-! ### Home, Release and inhibit -/

/-- A Home command takes over the slot of a Moving or Holding fader: a move ends Cancelled with off-target as it was, and
the slot becomes Homing at phase Down (R33, R61). -/
def State.homeTakeover (s : State) (i : SlotId) (sl : Slot) : State :=
  let t := if sl.use = .moving then s.complete sl.fader .cancelled .none sl.cls sl.tag sl.marks else s
  (t.setSlot i (some (homingSlot sl.fader 0 Marks.clear (s.fader sl.fader).raw))).modFader sl.fader fun x =>
    { x with motion := .homing, cls := .home, tag := 0 }

/-- A Home command for a fader that waits updates its entry in place: kind Home, tag 0, ramp 0, marks clear, class and
stamp kept (R27, R32). -/
def State.homeWaiting (s : State) (f : FaderId) : State :=
  match s.entryFor f with
  | none => s
  | some e =>
    let e' : Entry := { e with kind := .home, tag := 0, ramp := 0, marks := Marks.clear }
    ((s.modFader f fun x => { x with cls := e'.cls, tag := 0 }).replaceEntry e').arbitrate

/-- A Home command, by the first case that fits (R32). -/
def State.homeCommand (s : State) (f : FaderId) : State :=
  let x := s.fader f
  if s.queue.run = .stopped then s.refuse .stopped
  else if x.motion = .absent then s
  else if x.held then s
  else if x.inhibit || s.supplyFaulted f then s
  else
    match x.motion with
    | .idle | .unhomed | .faulted =>
      ((s.modFader f fun x => { x with cls := .home, tag := 0 }).joinQueue f .home .home 0 0 Marks.clear).arbitrate
    | .waiting => s.homeWaiting f
    | .moving | .holding =>
      match s.slotFor f with
      | none => s
      | some (i, sl) => s.homeTakeover i sl
    | .homing | .absent => s

/-- A Release command (R34). -/
def State.releaseCommand (s : State) (f : FaderId) : State :=
  let x := s.fader f
  if x.held then s.modFader f fun x => { x with pendingTarget := none }
  else
    match x.motion with
    | .waiting => (s.leaveQueue f .cancelled).arbitrate
    | .moving | .holding =>
      match s.slotFor f with
      | none => s
      | some (i, sl) =>
        if sl.use = .moving then (s.endMove i sl .cancelled).arbitrate else (s.endHold i sl).arbitrate
    | .homing | .idle | .unhomed | .faulted | .absent => s

/-- A fader's control word takes new fields; setting inhibit where it was clear ends what the fader is serving
(R7, R35). -/
def State.takeControl (s : State) (f : FaderId) (c : ControlFields) : State :=
  let t := s.modFader f fun x =>
    { x with mode := c.mode, groups := c.groups, latched := c.latched, inhibit := c.inhibit }
  if c.inhibit && !(s.fader f).inhibit then (t.endService f .inhibited).arbitrate else t

/-! ### RESET -/

/-- Assertion of RESET: every block at its RESET values, the bus path plain (R40, R154). Memory and the waiting commands
are outside the part, and the strap setting stands until the release samples it (R154, R160). -/
def State.assertReset (s : State) : State :=
  { State.reset with
    bus := { BusPath.reset with imageSel := s.bus.imageSel }
    mem := s.mem
    pending := s.pending }

/-- Release of RESET: the straps are sampled, and from then on accesses are classified and the frame timer runs
(R141, R154). Without RESET asserted there is no release, and the straps have no effect. -/
def State.releaseReset (s : State) (straps : BitVec 4) : State :=
  if s.bus.inReset then { s with bus := { s.bus with inReset := false, imageSel := straps } } else s

/-- RESET (R40). -/
def execReset (s : State) : Host.Outcome State Fault Refusal :=
  s.assertReset.done

/-- RESET_RELEASE (R154). -/
def execResetRelease (straps : BitVec 4) (s : State) : Host.Outcome State Fault Refusal :=
  (s.releaseReset straps).done

end Sys2Proof.Machine
end

