-- ==== Sys2Proof/Machine/BusPath.lean ====
section
/-! DEFINITION. The bus path: what a write to each class of word does, and what it leaves in memory (R155 to R158,
R160, R161); and the reads that act (R22, R83, R126, R144, R145, R159). -/

namespace Sys2Proof.Machine

/-! ### What reaches memory -/

/-- A write passes to memory as the processor made it (R155). -/
def State.passWrite (s : State) (w : ImageWord) (l : Lanes) : State :=
  s.store (s.addressOf w) l

/-- A write goes on to memory with all four lanes and the value the owning block took (R156, step 3). -/
def State.rewrite (s : State) (w : ImageWord) (v : Word) : State :=
  s.store (s.addressOf w) (Lanes.full v)

/-- A write reaches a word: while RESET is asserted it passes untouched (R154), and otherwise the part takes it. -/
def State.onBus (s : State) (w : ImageWord) (l : Lanes) (take : State → State) : State :=
  if s.bus.inReset then s.passWrite w l else take s

/-! ### Setup and target words (R156) -/

/-- The request that a written target word makes (R14, section 1.4). -/
def State.directRequest (s : State) (f : FaderId) (l : Lanes) : Request :=
  ⟨f, Gain.ofCode (fieldInt (l.merge (s.fader f).targetWord) 0), .direct, 0, 0, Marks.clear⟩

/-- A write to a target word: merged, accepted as a Direct request, rewritten (R14, R156). -/
def State.writeTarget (s : State) (f : FaderId) (l : Lanes) : State :=
  s.onBus (.target f) l fun s =>
    let r := s.directRequest f l
    (s.accept r).rewrite (.target f) (putInt 0 16 (s.targetRewrite r).code)

/-- A control word is taken and rewritten with the fields taken (R7, R156, R158). -/
def State.takeControlWord (s : State) (f : FaderId) (v : Word) : State :=
  let c := ControlFields.ofWord v
  (s.takeControl f c).rewrite (.control f) c.toWord

/-- A write to a control word (R7, R156). -/
def State.writeControl (s : State) (f : FaderId) (l : Lanes) : State :=
  s.onBus (.control f) l fun s => s.takeControlWord f (l.merge (s.fader f).control.toWord)

/-- A write to an alias of a control word: the operand combined with the control word in force, taken as a write of the
whole control word and redirected to it (R158). -/
def State.writeAlias (s : State) (k : AliasKind) (f : FaderId) (l : Lanes) : State :=
  s.onBus (.controlAlias k f) l fun s =>
    s.takeControlWord f (aliasResult k l.zeroFilled (s.fader f).control.toWord)

/-- A write to a level intake word (R115, R156). -/
def State.writeIntake (s : State) (m : MeterId) (l : Lanes) : State :=
  s.onBus (.intake m) l fun s =>
    let x := takeLevel (l.merge (s.meter m).intakeWord)
    (s.intake m x).rewrite (.intake m) (putInt 0 16 x)

/-- A write to the surface time word (R89, R156). -/
def State.writeSurface (s : State) (l : Lanes) : State :=
  s.onBus .surfaceTime l fun s =>
    let v := l.merge s.cues.surface
    State.rewrite { s with cues := s.cues.setTime v } .surfaceTime v

/-- A write to the slot limit word: clamped to 1..16, and the grant decision is made again (R42, R156). -/
def State.writeSlotLimit (s : State) (l : Lanes) : State :=
  s.onBus .slotLimit l fun s =>
    let n := clampNat 1 16 (fieldNat (l.merge (putNat 0 8 s.table.limit)) 0 8)
    (State.arbitrate { s with table := { s.table with limit := n } }).rewrite .slotLimit (putNat 0 8 n)

/-- A write to the quiet word (R149, R156). -/
def State.writeQuiet (s : State) (l : Lanes) : State :=
  s.onBus .quiet l fun s =>
    let n := clampNat 0 255 (fieldNat (l.merge (putNat 0 16 s.attn.quiet)) 0 16)
    State.rewrite { s with attn := { s.attn with quiet := n } } .quiet (putNat 0 16 n)

/-- A per-fader setup value takes a new one (R56, R60). -/
def State.setFaderSetup (s : State) (f : FaderId) (g : FaderSetup → FaderSetup) : State :=
  s.modFader f fun x => { x with setup := g x.setup }

/-- A per-meter setup value takes a new one (R124). -/
def State.setMeterSetup (s : State) (m : MeterId) (g : MeterSetup → MeterSetup) : State :=
  s.setMeter m { s.meter m with setup := g (s.meter m).setup }

/-- A written setup word takes effect, each field clamped by its owning rule (R10, R56, R60, R76, R96, R124, R147,
R149). -/
def State.takeSetup (s : State) (w : SetupWord) (v : Word) : State :=
  match w with
  | .stallSetup => { s with setup := s.setup.takeStall v }
  | .moveLimit => { s with setup := s.setup.takeMoveLimit v }
  | .homingA => { s with setup := s.setup.takeHomingA v }
  | .homingB => { s with setup := s.setup.takeHomingB v }
  | .touchSetup => { s with setup := s.setup.takeTouch v }
  | .cutPosition => { s with law := { s.law with cut := clampNat 0 50 (fieldNat v 0 8) } }
  | .lateLimit => { s with cues := { s.cues with lateLimit := clampNat 0 60000 (fieldNat v 0 16) } }
  | .levelsFirst => { s with attn := { s.attn with levels := takeLevels v } }
  | .levelsSecond => s
  | .attentionControl => { s with attn := { s.attn with threshold := clampNat 0 7 (fieldNat v 0 4) } }
  | .faderA f => s.setFaderSetup f fun x => x.takeA v
  | .faderB f => s.setFaderSetup f fun x => x.takeB v
  | .meterA m => s.setMeterSetup m fun x => x.takeA v
  | .meterB m => s.setMeterSetup m fun x => x.takeB v
  | .meterC m => s.setMeterSetup m fun x => x.takeC v

/-- A write to a setup word: merged with the values in force, captured, rewritten with the values taken (R156). -/
def State.writeSetup (s : State) (w : SetupWord) (l : Lanes) : State :=
  s.onBus (.setup w) l fun s =>
    let t := s.takeSetup w (l.merge (s.setupWordValue w))
    t.rewrite (.setup w) (t.setupWordValue w)

/-! ### Staging words -/

/-- The written lanes of a staging word replace those lanes of the part's copy (R91, R104, R122, R157). -/
def Staging.capture (g : Staging) (w : StagingWord) (l : Lanes) : Staging :=
  match w with
  | .cueTag => { g with cueTag := l.merge g.cueTag }
  | .cueDue => { g with cueDue := l.merge g.cueDue }
  | .cueGain => { g with cueGain := l.merge g.cueGain }
  | .cueGuard => { g with cueGuard := l.merge g.cueGuard }
  | .taperCount => { g with taperCount := l.merge g.taperCount }
  | .taperPoint k => { g with taperPoints := g.taperPoints.set k (l.merge g.taperPoints[k]) }
  | .scaleThreshold i => { g with scale := g.scale.set i (l.merge g.scale[i]) }
  | .recallPair j => { g with pairs := g.pairs.set j (l.merge g.pairs[j]) }

/-- A write to a staging word passes to memory and is merged into the part's copy (R155). -/
def State.writeStaging (s : State) (w : StagingWord) (l : Lanes) : State :=
  s.onBus (.staging w) l fun s => { s.passWrite (.staging w) l with staging := s.staging.capture w l }

/-! ### Command words (R157) -/

/-- A write of a code to a command word: the command is taken, and the write passes to memory on the lanes written. -/
def State.pulse (s : State) (cw : CommandWord) (code : Byte) (u : UpperLanes) (take : State → State) : State :=
  s.onBus (.command cw) (u.withCode code) fun s => (take s).passWrite (.command cw) (u.withCode code)

/-- The tag of a cancel, lanes 2 and 3 (R95, section 12.3). -/
def upperTag (u : UpperLanes) : Tag :=
  u.lane3.getD 0 ++ u.lane2.getD 0

/-- The count of a recall commit, lane 1 (R105, section 12.3). -/
def upperCount (u : UpperLanes) : Nat :=
  (u.lane1.getD 0).toNat

/-- The ramp of a recall commit, lanes 2 and 3 (R105, section 12.3). -/
def upperRamp (u : UpperLanes) : Nat :=
  (upperTag u).toNat

/-- A number written to the acknowledge word (R148). -/
def State.acknowledge (s : State) (n : Nat) : State :=
  match EventSource.ofNumber n with
  | some e => { s with attn := { s.attn with events := s.attn.events.set e false } }
  | none => if 10 < n then s.refuse .unknownCommand else s

/-- What a command word takes from a written code and the upper lanes: nothing for code 0, the command of a listed code,
a refusal with UnknownCommand for any other (R31, R36, R92, R95, R105, R123, R20, R148, R162). The run control word, of which
section 12.3 has no row, carries its code where every other command word does (notes/assumptions/28.md). -/
def State.takeCommand (s : State) (cw : CommandWord) (code : Byte) (u : UpperLanes) : State :=
  if code = 0 then s
  else
    match cw with
    | .runControl =>
      if code = 1 then s.stopCommand
      else if code = 2 then s.resumeCommand
      else if code = 3 then s.restartCommand
      else s.refuse .unknownCommand
    | .faderCommand f =>
      if code = 1 then s.homeCommand f
      else if code = 2 then s.releaseCommand f
      else s.refuse .unknownCommand
    | .cueArm => if code = 0x5A then s.arm else s.refuse .unknownCommand
    | .cueCancel => if code = 0x3C then s.cancelCues (upperTag u) else s.refuse .unknownCommand
    | .recallCommit =>
      if code = 0xC1 then s.commitRecall (upperCount u) (upperRamp u)
      else if code = 0xD0 then s.undoRecall
      else s.refuse .unknownCommand
    | .taperCommit => if code = 0x7E then s.commitTaper else s.refuse .unknownCommand
    | .scaleCommit => if code = 0x7F then s.commitScale else s.refuse .unknownCommand
    | .acknowledge => s.acknowledge code.toNat

/-! ### A write at a bus address (R154, R155) -/

/-- A write to a word of the image that the part acts on, by the word's class (R155); a write to a live or removing word
passes and is ignored. -/
def State.writeWord (s : State) (word : ImageWord) (l : Lanes) : State :=
  match word with
  | .target f => s.writeTarget f l
  | .control f => s.writeControl f l
  | .controlAlias k f => s.writeAlias k f l
  | .intake m => s.writeIntake m l
  | .surfaceTime => s.writeSurface l
  | .slotLimit => s.writeSlotLimit l
  | .quiet => s.writeQuiet l
  | .setup w => s.writeSetup w l
  | .staging w => s.writeStaging w l
  | .command cw =>
    (s.takeCommand cw (l.lane0.getD 0) ⟨l.lane1, l.lane2, l.lane3⟩).passWrite word l
  | .motionStatus | .cueStatus | .nextDue | .historyFirst | .historySecond | .portA | .portB | .depth | .attention
  | .lastRefusal | .moved _ | .slotStatus _ | .bayStatus _ | .presentGain _ | .presentPosition _ | .faderState _
  | .pendingA _ | .pendingB _ | .targetPosition _ | .calibration _ | .faderTag _ | .readout1 _ | .readout2 _ =>
    s.passWrite word l

/-- A write at a byte address: outside the image, in an undefined word and while RESET is asserted it passes untouched
(R154, R155); in any other word the class of the word decides. -/
def State.writeAt (s : State) (addr : BitVec 32) (l : Lanes) : State :=
  match s.wordAtAddress addr.toNat with
  | some word => s.writeWord word l
  | none => s.store (addr.toNat - addr.toNat % 4) l

/-! ### Reads that act (R159) -/

/-- What a read of a word returns: the part's value on all four lanes where the word is overlaid, and otherwise, or while
RESET is asserted, memory's data (R154, R155, R159). -/
def State.wordData (s : State) (w : ImageWord) : Lanes :=
  if s.bus.inReset then Memory.readLanes s.mem (s.addressOf w)
  else (s.overlay w).elim (Memory.readLanes s.mem (s.addressOf w)) Lanes.full

/-- A read of a word: the data the read returns stands on the bus, and then the read acts, unless RESET is asserted
(R154, R159). -/
def State.readWord (s : State) (w : ImageWord) (act : State → State) : State :=
  let t := { s with bus := { s.bus with readData := s.wordData w } }
  if s.bus.inReset then t else act t

/-- A read of a present gain word takes the record snapshot (R22). -/
def State.takeSnapshot (s : State) (f : FaderId) : State :=
  { s with bus := { s.bus with snapshot := some (s.snapshotOf f) } }

/-- A read of port word A marks the head opened (R144). -/
def State.openHead (s : State) : State :=
  match s.completions with
  | [] => s
  | c :: rest => { s with completions := { c with opened := true } :: rest }

/-- A read of port word B removes the head when it is opened (R145). -/
def State.takeHead (s : State) : State :=
  match s.completions with
  | [] => s
  | c :: rest => if c.opened then { s with completions := rest } else s

/-- A read of a moved word removes the members of its range and sets their last reported gains (R83). -/
def State.takeMoved (s : State) (h : MovedHalf) : State :=
  s.mapFaders fun f x =>
    if movedCovers h f && x.moved then { x with moved := false, lastReported := gainOfPerMille s.law x.perMille } else x

/-- A read of a second readout word clears the over latch (R126). -/
def State.clearOver (s : State) (m : MeterId) : State :=
  s.setMeter m { s.meter m with overLatch := false }

end Sys2Proof.Machine
end

