-- ==== Sys2Proof/Machine/Commands.lean ====
section
/-! DEFINITION. The meanings of the bus commands: writes to setup, target, alias and staging words, writes to command
words, and the reads that act. The meanings of RESET stand in RunControl.lean, those of the expiry, link and arbiter
events in Expiry.lean. -/

namespace Sys2Proof.Machine

/-- TARGET_WRITE (R14). -/
def execTargetWrite (f : FaderId) (w : Lanes) (s : State) : Host.Outcome State Fault Refusal :=
  (s.writeTarget f w).done

/-- CONTROL_WRITE (R7). -/
def execControlWrite (f : FaderId) (w : Lanes) (s : State) : Host.Outcome State Fault Refusal :=
  (s.writeControl f w).done

/-- SET_ALIAS (R158). -/
def execSetAlias (f : FaderId) (w : Lanes) (s : State) : Host.Outcome State Fault Refusal :=
  (s.writeAlias .set f w).done

/-- CLEAR_ALIAS (R158). -/
def execClearAlias (f : FaderId) (w : Lanes) (s : State) : Host.Outcome State Fault Refusal :=
  (s.writeAlias .clear f w).done

/-- TOGGLE_ALIAS (R158). -/
def execToggleAlias (f : FaderId) (w : Lanes) (s : State) : Host.Outcome State Fault Refusal :=
  (s.writeAlias .toggle f w).done

/-- LEVEL_INTAKE (R115). -/
def execLevelIntake (m : MeterId) (w : Lanes) (s : State) : Host.Outcome State Fault Refusal :=
  (s.writeIntake m w).done

/-- SURFACE_TIME_SET (R89). -/
def execSurfaceTimeSet (w : Lanes) (s : State) : Host.Outcome State Fault Refusal :=
  (s.writeSurface w).done

/-- SLOT_LIMIT_WRITE (R42). -/
def execSlotLimitWrite (w : Lanes) (s : State) : Host.Outcome State Fault Refusal :=
  (s.writeSlotLimit w).done

/-- QUIET_WRITE (R149). -/
def execQuietWrite (w : Lanes) (s : State) : Host.Outcome State Fault Refusal :=
  (s.writeQuiet w).done

/-- SETUP_WRITE (R156). -/
def execSetupWrite (sw : SetupWord) (w : Lanes) (s : State) : Host.Outcome State Fault Refusal :=
  (s.writeSetup sw w).done

/-- STAGING_WRITE (R91, R104, R122). -/
def execStagingWrite (st : StagingWord) (w : Lanes) (s : State) : Host.Outcome State Fault Refusal :=
  (s.writeStaging st w).done

/-- WORD_WRITE (R155): a write at a bus address. In a live, removing or undefined word, and outside the image, it passes to
memory and is ignored; in any other word the class of the word decides, as its own row gives. -/
def execWordWrite (addr : BitVec 32) (w : Lanes) (s : State) : Host.Outcome State Fault Refusal :=
  (s.writeAt addr w).done

/-- STOP (R37). -/
def execStop (u : UpperLanes) (s : State) : Host.Outcome State Fault Refusal :=
  (s.pulse .runControl 1 u State.stopCommand).done

/-- RESUME (R38). -/
def execResume (u : UpperLanes) (s : State) : Host.Outcome State Fault Refusal :=
  (s.pulse .runControl 2 u State.resumeCommand).done

/-- RESTART (R39). -/
def execRestart (u : UpperLanes) (s : State) : Host.Outcome State Fault Refusal :=
  (s.pulse .runControl 3 u State.restartCommand).done

/-- HOME (R32). -/
def execHome (f : FaderId) (u : UpperLanes) (s : State) : Host.Outcome State Fault Refusal :=
  (s.pulse (.faderCommand f) 1 u fun t => t.homeCommand f).done

/-- RELEASE (R34). -/
def execRelease (f : FaderId) (u : UpperLanes) (s : State) : Host.Outcome State Fault Refusal :=
  (s.pulse (.faderCommand f) 2 u fun t => t.releaseCommand f).done

/-- CUE_ARM (R93, R94). -/
def execCueArm (u : UpperLanes) (s : State) : Host.Outcome State Fault Refusal :=
  (s.pulse .cueArm 0x5A u State.arm).done

/-- CUE_CANCEL (R95). -/
def execCueCancel (u : UpperLanes) (s : State) : Host.Outcome State Fault Refusal :=
  (s.pulse .cueCancel 0x3C u fun t => t.cancelCues (upperTag u)).done

/-- COMMIT (R105, R106). -/
def execCommit (u : UpperLanes) (s : State) : Host.Outcome State Fault Refusal :=
  (s.pulse .recallCommit 0xC1 u fun t => t.commitRecall (upperCount u) (upperRamp u)).done

/-- UNDO (R111). -/
def execUndo (u : UpperLanes) (s : State) : Host.Outcome State Fault Refusal :=
  (s.pulse .recallCommit 0xD0 u State.undoRecall).done

/-- TAPER_COMMIT (R20). -/
def execTaperCommit (u : UpperLanes) (s : State) : Host.Outcome State Fault Refusal :=
  (s.pulse .taperCommit 0x7E u State.commitTaper).done

/-- SCALE_COMMIT (R123). -/
def execScaleCommit (u : UpperLanes) (s : State) : Host.Outcome State Fault Refusal :=
  (s.pulse .scaleCommit 0x7F u State.commitScale).done

/-- ACKNOWLEDGE (R148). -/
def execAcknowledge (n : Byte) (u : UpperLanes) (s : State) : Host.Outcome State Fault Refusal :=
  (s.pulse .acknowledge n u fun t => t.acknowledge n.toNat).done

/-- UNKNOWN_COMMAND (R152, R162): a code the word does not list is refused with UnknownCommand. A code the word lists is no
such command (WellFormed refuses it); written here it does what the word's own row gives. -/
def execUnknownCommand (cw : CommandWord) (code : Byte) (u : UpperLanes) (s : State) : Host.Outcome State Fault Refusal :=
  (s.pulse cw code u fun t => t.takeCommand cw code u).done

/-- PRESENT_GAIN_READ (R4, R22). -/
def execPresentGainRead (f : FaderId) (s : State) : Host.Outcome State Fault Refusal :=
  (s.readWord (.presentGain f) fun t => t.takeSnapshot f).done

/-- PORT_A_READ (R144). -/
def execPortARead (s : State) : Host.Outcome State Fault Refusal :=
  (s.readWord .portA State.openHead).done

/-- PORT_B_READ (R145). -/
def execPortBRead (s : State) : Host.Outcome State Fault Refusal :=
  (s.readWord .portB State.takeHead).done

/-- MOVED_WORD_READ (R83). -/
def execMovedWordRead (half : MovedHalf) (s : State) : Host.Outcome State Fault Refusal :=
  (s.readWord (.moved half) fun t => t.takeMoved half).done

/-- READOUT_2_READ (R126). -/
def execReadout2Read (m : MeterId) (s : State) : Host.Outcome State Fault Refusal :=
  (s.readWord (.readout2 m) fun t => t.clearOver m).done

end Sys2Proof.Machine
end

