-- ==== Sys2Proof/Machine/Dispatch.lean ====
section
/-! DEFINITION. The dispatch of a command to its meaning: one arm per row of spec/opcode_table.json. -/

namespace Sys2Proof.Machine

/-- The effect of a command on everything but the queue of the commands that wait. -/
def exec (i : Instr) (s : State) : Host.Outcome State Fault Refusal :=
  match i with
  | .reset => Sys2Proof.Machine.execReset s
  | .resetRelease straps => Sys2Proof.Machine.execResetRelease straps s
  | .frameExpiry => Sys2Proof.Machine.execFrameExpiry s
  | .cueFiring => Sys2Proof.Machine.execCueFiring s
  | .intakeTimeout m => Sys2Proof.Machine.execIntakeTimeout m s
  | .moveTimeout k => Sys2Proof.Machine.execMoveTimeout k s
  | .parkTimeout k => Sys2Proof.Machine.execParkTimeout k s
  | .holdExpiry k => Sys2Proof.Machine.execHoldExpiry k s
  | .homeLimitExceeded k => Sys2Proof.Machine.execHomeLimitExceeded k s
  | .releasingEnd f => Sys2Proof.Machine.execReleasingEnd f s
  | .quietIntervalEnd => Sys2Proof.Machine.execQuietIntervalEnd s
  | .missedFrame b => Sys2Proof.Machine.execMissedFrame b s
  | .senseFrame b bytes => Sys2Proof.Machine.execSenseFrame b bytes s
  | .slotGrant => Sys2Proof.Machine.execSlotGrant s
  | .preEmption => Sys2Proof.Machine.execPreEmption s
  | .targetWrite f w => Sys2Proof.Machine.execTargetWrite f w s
  | .controlWrite f w => Sys2Proof.Machine.execControlWrite f w s
  | .setAlias f w => Sys2Proof.Machine.execSetAlias f w s
  | .clearAlias f w => Sys2Proof.Machine.execClearAlias f w s
  | .toggleAlias f w => Sys2Proof.Machine.execToggleAlias f w s
  | .levelIntake m w => Sys2Proof.Machine.execLevelIntake m w s
  | .surfaceTimeSet w => Sys2Proof.Machine.execSurfaceTimeSet w s
  | .slotLimitWrite w => Sys2Proof.Machine.execSlotLimitWrite w s
  | .quietWrite w => Sys2Proof.Machine.execQuietWrite w s
  | .setupWrite sw w => Sys2Proof.Machine.execSetupWrite sw w s
  | .stagingWrite st w => Sys2Proof.Machine.execStagingWrite st w s
  | .wordWrite addr w => Sys2Proof.Machine.execWordWrite addr w s
  | .stop u => Sys2Proof.Machine.execStop u s
  | .resume u => Sys2Proof.Machine.execResume u s
  | .restart u => Sys2Proof.Machine.execRestart u s
  | .home f u => Sys2Proof.Machine.execHome f u s
  | .release f u => Sys2Proof.Machine.execRelease f u s
  | .cueArm u => Sys2Proof.Machine.execCueArm u s
  | .cueCancel u => Sys2Proof.Machine.execCueCancel u s
  | .commit u => Sys2Proof.Machine.execCommit u s
  | .undo u => Sys2Proof.Machine.execUndo u s
  | .taperCommit u => Sys2Proof.Machine.execTaperCommit u s
  | .scaleCommit u => Sys2Proof.Machine.execScaleCommit u s
  | .acknowledge n u => Sys2Proof.Machine.execAcknowledge n u s
  | .unknownCommand cw code u => Sys2Proof.Machine.execUnknownCommand cw code u s
  | .presentGainRead f => Sys2Proof.Machine.execPresentGainRead f s
  | .portARead => Sys2Proof.Machine.execPortARead s
  | .portBRead => Sys2Proof.Machine.execPortBRead s
  | .movedWordRead half => Sys2Proof.Machine.execMovedWordRead half s
  | .readout2Read m => Sys2Proof.Machine.execReadout2Read m s

end Sys2Proof.Machine
end

