-- ==== Sys2Proof/Safety.lean ====
section
/-! DEFINITION. What holds of the part between any two commands, in the terms the statements use: the line of attention,
the order of the wait queue and the cue list, who owns a fader, the tables in force, and the ranges of settings; and what
a write leaves in memory, and the ends of the expiry and of the frames, each said from its rule. -/

namespace Sys2Proof.Machine

/-! ### What a write leaves in memory -/

/-- The byte of lane `k` of an access, when that lane is written. -/
def laneByte (l : Lanes) (k : Nat) : Option Byte :=
  match k with
  | 0 => l.lane0
  | 1 => l.lane1
  | 2 => l.lane2
  | 3 => l.lane3
  | _ => none

/-- Memory `m'` is `m` after a write of the lanes `l` to the word at byte address `addr`: each written lane holds its byte,
and every byte that is no written lane reads as before (R156). -/
def storesAt (m m' : Memory) (addr : Nat) (l : Lanes) : Prop :=
  (∀ k b, laneByte l k = some b → Memory.read m' (addr + k) = some b) ∧
    ∀ a, (∀ k, a = addr + k → laneByte l k = none) → Memory.read m' a = Memory.read m a

/-- Every byte of memory reads in `m'` as in `m`. -/
def sameBytes (m m' : Memory) : Prop :=
  ∀ a, Memory.read m' a = Memory.read m a

/-- A bus command answers a next state: it stores the lanes `l` at the image offset `off`, and its state is `t` but for
memory and the attention line, which follows (R150, R156). -/
def State.writes (s : State) (c : Instr) (off : Nat) (l : Lanes) (t : State) : Prop :=
  ∃ m, storesAt s.mem m (s.imageBase + off) l ∧ exec c s = .next (State.driveAttn { t with mem := m })

/-- A command answers a next state: `t`, but for the attention line, which follows (R150). -/
def State.answers (s : State) (c : Instr) (t : State) : Prop :=
  exec c s = .next t.driveAttn

/-! ### Attention, completions, cues, history -/

/-- The attention line is asserted exactly when R150 says so. -/
abbrev State.attnCurrent (s : State) : Prop :=
  s.attn.line = s.attnAsserted

/-- At most one completion record per fader (R143), and only the head may carry the opened mark (R144). -/
abbrev completionsOk (q : List Completion) : Prop :=
  (q.map Completion.fader).Nodup ∧ ∀ c ∈ q.tail, c.opened = false

/-- The cue list: at most 256 cues, in order of lead and capture number, no two for one fader and due time, and every
capture number already given out (R90). -/
abbrev CueList.ok (l : CueList) : Prop :=
  l.cues.length ≤ 256 ∧ l.cues.Pairwise (fun a b => Cue.ahead l.surface a b = true) ∧
    l.cues.Pairwise (fun a b => ¬(a.fader = b.fader ∧ a.due = b.due)) ∧ ∀ c ∈ l.cues, c.capture < l.nextCapture

/-- The undo history: at most 4 entries, each listing 1 to 48 distinct faders (R108), and no entry numbered 0 (R107). -/
abbrev RecallUnit.ok (r : RecallUnit) : Prop :=
  r.history.length ≤ 4 ∧
    ∀ e ∈ r.history,
      1 ≤ e.priors.length ∧ e.priors.length ≤ 48 ∧ (e.priors.map PriorTarget.fader).Nodup ∧ e.number ≠ 0 ∧
        e.ramp ≤ 5000

/-! ### The wait queue, the slots and the arbiter -/

/-- The wait queue stands in order of class and arrival stamp, no two entries hold one stamp, and every stamp was given
out before the next one (R25). -/
abbrev MotionQueue.ordered (q : MotionQueue) : Prop :=
  q.entries.Pairwise (fun a b => Entry.ahead a b = true ∧ a.stamp ≠ b.stamp) ∧ ∀ e ∈ q.entries, e.stamp < q.nextStamp

/-- The motion state of a fader whose slot has a use (R2). -/
def SlotUse.motion : SlotUse → MotionState
  | .moving => .moving
  | .holding => .holding
  | .homing => .homing

/-- A motion state in which a fader is neither in the wait queue nor in a slot (R2). -/
def MotionState.free : MotionState → Bool
  | .absent | .unhomed | .idle | .faulted => true
  | .waiting | .moving | .holding | .homing => false

/-- Whether a fader's bay is Present and its position fitted (R2, R135, R137). -/
def State.onBay (s : State) (f : FaderId) : Bool :=
  (s.bay (bayOf f)).state == .present && (s.bay (bayOf f)).fits (positionOf f)

/-- Who has hold of each fader: a fader is Waiting exactly while it has its one entry in the queue, and Moving, Holding or
Homing exactly while it has its one slot, of that use (R2, R24, R41). -/
structure State.owned (s : State) : Prop where
  /-- No fader has two entries. -/
  oneEntry : (s.queue.entries.map Entry.fader).Nodup
  /-- A fader with an entry is Waiting. -/
  entryWaits : ∀ e ∈ s.queue.entries, (s.fader e.fader).motion = .waiting
  /-- A Waiting fader has an entry. -/
  waitingHasEntry : ∀ f, (s.fader f).motion = .waiting → f ∈ s.queue.entries.map Entry.fader
  /-- The use of a slot is the motion state of its fader. -/
  slotMoves : ∀ i, ((s.slot i).all fun sl => (s.fader sl.fader).motion == sl.use.motion) = true
  /-- No fader has two slots. -/
  oneSlot : ∀ i j, i ≠ j → s.slot i = none ∨ (s.slot i).map Slot.fader ≠ (s.slot j).map Slot.fader
  /-- A Moving, Holding or Homing fader has a slot. -/
  movingHasSlot :
    ∀ f, (s.fader f).motion = .moving ∨ (s.fader f).motion = .holding ∨ (s.fader f).motion = .homing →
      ∃ i, (s.slot i).map Slot.fader = some f

/-- A fader is Absent exactly while its bay is not Present or its position not fitted (R2), and is then Untouched with no
pending target (R85). -/
abbrev State.absentOk (s : State) : Prop :=
  ∀ f, ((s.fader f).motion = .absent ↔ s.onBay f = false) ∧
    ((s.fader f).motion = .absent → (s.fader f).touch = .untouched ∧ (s.fader f).stale = true)

/-- No fader that is Touched or Releasing, inhibited, or on a bay with a supply fault is in the queue or a slot
(R28, R29, R78). -/
abbrev State.heldFree (s : State) : Prop :=
  ∀ f, (s.fader f).held = true ∨ (s.fader f).inhibit = true ∨ s.supplyFaulted f = true →
    (s.fader f).motion.free = true

/-- A pending target is held only while the fader is Touched or Releasing (R79). -/
abbrev State.pendingOnlyHeld (s : State) : Prop :=
  ∀ f, (s.fader f).pendingTarget ≠ none → (s.fader f).held = true

/-- The arbiter has nothing left to grant: in Running neither a grant (R43) nor a pre-emption (R45) is open, and while
Stopped the queue and the slot table are empty (R37). -/
abbrev State.settled (s : State) : Prop :=
  match s.queue.run with
  | .running => s.arbiterStep = none
  | .stopped => s.queue.entries = [] ∧ ∀ i, s.slot i = none

/-! ### Tables and settings -/

/-- A scale table in force: 32 thresholds within range, each greater than the one before (R121). -/
abbrev scaleInForce (l : List Int) : Prop :=
  l.length = 32 ∧ l.Pairwise (· < ·) ∧ ∀ t ∈ l, Config.levelMin ≤ t ∧ t ≤ Config.levelMax

/-- A gain law in force: a taper table as R10 requires, and a cut position of 0..50. -/
abbrev GainLaw.ok (l : GainLaw) : Prop :=
  taperOk l.taper = true ∧ l.cut ≤ 50

/-- The levels of a meter within range, the hold level never below the display level (R114), under an attack of 1..16. -/
abbrev Meter.ok (m : Meter) : Prop :=
  Config.levelMin ≤ m.level ∧ m.level ≤ m.hold ∧ m.hold ≤ Config.levelMax ∧ Config.levelMin ≤ m.lastIntake ∧
    m.lastIntake ≤ Config.levelMax ∧ 1 ≤ m.setup.attack ∧ m.setup.attack ≤ 16

/-- The settings of a meter within the ranges of R124. -/
abbrev MeterSetup.inRange (x : MeterSetup) : Prop :=
  1 ≤ x.attack ∧ x.attack ≤ 16 ∧ x.decay ≤ 2000 ∧ x.holdFrames ≤ 10000 ∧ Config.levelMin ≤ x.overThreshold ∧
    x.overThreshold ≤ Config.levelMax ∧ 1 ≤ x.overCount ∧ x.overCount ≤ 8 ∧ x.intakeTimeout ≤ 1000

/-- The settings of a fader within the ranges of R56 and R60. -/
abbrev FaderSetup.inRange (x : FaderSetup) : Prop :=
  x.deadband ≤ 64 ∧ 1 ≤ x.settleFrames ∧ x.settleFrames ≤ 50 ∧ 1 ≤ x.slewLimit ∧ x.slewLimit ≤ 400 ∧
    1 ≤ x.driveLimit ∧ x.driveLimit ≤ 127 ∧ 1 ≤ x.servoGain ∧ x.servoGain ≤ 64 ∧ 10 ≤ x.homeDrive ∧
      x.homeDrive ≤ 127 ∧ x.holdFrames ≤ 10000

/-- The global motion, homing and touch settings within the ranges of R56, R60 and R76. -/
abbrev MotionSetup.inRange (x : MotionSetup) : Prop :=
  2 ≤ x.stallWindow ∧ x.stallWindow ≤ 250 ∧ x.stallTravel ≤ 400 ∧ 10 ≤ x.moveLimit ∧ x.moveLimit ≤ 60000 ∧
    50 ≤ x.homeLimit ∧ x.homeLimit ≤ 60000 ∧ 2 ≤ x.stillFrames ∧ x.stillFrames ≤ 250 ∧ 1 ≤ x.stillTravel ∧
      x.stillTravel ≤ 400 ∧ 16 ≤ x.minSpan ∧ x.minSpan ≤ 4095 ∧ x.releaseGuard ≤ 10000 ∧ 1 ≤ x.reportStep ∧
        x.reportStep ≤ 2000

/-- Every setting of the part within its range (R10, R42, R56, R60, R76, R96, R124, R147, R149). -/
structure State.settingsOk (s : State) : Prop where
  faders : ∀ f, (s.fader f).setup.inRange
  meters : ∀ m, (s.meter m).setup.inRange
  motion : s.setup.inRange
  slotLimit : 1 ≤ s.table.limit ∧ s.table.limit ≤ 16
  cut : s.law.cut ≤ 50
  lateLimit : s.cues.lateLimit ≤ 60000
  levels : ∀ i : Fin 8, s.attn.levels[i] ≤ 7
  threshold : s.attn.threshold ≤ 7
  quiet : s.attn.quiet ≤ 255

/-- The positions of a fader within range (R1, R11). -/
abbrev Fader.inRange (x : Fader) : Prop :=
  x.raw ≤ 4095 ∧ x.perMille ≤ 1000 ∧ x.targetPos ≤ 1000

/-- The calibration record of a fader, its high end above its low end and within the sensor's range (R13, R58). -/
abbrev Calibration.ok (c : Calibration) : Prop :=
  c.low < c.high ∧ c.high ≤ 4095

/-- The two ends between which a slot's setpoint and target lie: the pair found by its homing in Park (R67), else the ends
of its fader's calibration record (R50). -/
def Slot.ends (sl : Slot) (c : Calibration) : Nat × Nat :=
  if sl.use = .homing ∧ sl.phase = .park then (sl.foundLow.getD c.low, sl.foundHigh.getD c.high) else (c.low, c.high)

/-- The setpoint and target of a slot that the servo moves or holds lie between its ends (R50, R67); a homing in Down or Up
has no target yet (R61). -/
def Slot.setpointOk (sl : Slot) (c : Calibration) : Bool :=
  if sl.use = .homing ∧ sl.phase ≠ .park then true
  else
    decide ((sl.ends c).1 < (sl.ends c).2) && decide ((sl.ends c).2 ≤ 4095) && decide ((sl.ends c).1 ≤ sl.setpoint)
      && decide (sl.setpoint ≤ (sl.ends c).2) && decide ((sl.ends c).1 ≤ sl.targetRaw)
      && decide (sl.targetRaw ≤ (sl.ends c).2)

/-- Every calibration record is sound, every setpoint and slot target lies between its ends (R50), and every position is
within range (R1, R11). -/
structure State.positionsOk (s : State) : Prop where
  calibrations : ∀ f, (s.fader f).cal.ok
  setpoints : ∀ i, ((s.slot i).all fun sl => sl.setpointOk (s.fader sl.fader).cal) = true
  positions : ∀ f, (s.fader f).inRange

/-- A bay record: a join run of 1..7 exactly while Joining, a miss run of at most 2 and only while Present, a supply fault
only while Present (R132, R133, R136, R139). -/
abbrev Bay.ok (x : Bay) : Prop :=
  (x.state = .joining → 1 ≤ x.joinRun ∧ x.joinRun ≤ 7) ∧ (x.state ≠ .joining → x.joinRun = 0) ∧ x.missRun ≤ 2 ∧
    (x.state ≠ .present → x.missRun = 0 ∧ x.supplyFault = false)

/-! ### What the end of a fader's service leaves -/

/-- A fader whose service is ended with an outcome, its present per-mille under its calibration record being `p`: a Waiting
or Homing fader takes its state from that record, a Moving or Holding one is Idle, and off-target is set but for a Holding
one, whose target was reached (R28, R35, R37, R70, R136, R138). -/
def Fader.afterEnd (x : Fader) (p : Nat) : Fader :=
  match x.motion with
  | .waiting => { x with motion := x.cal.motion, offTarget := true }
  | .moving => { x with motion := .idle, offTarget := true }
  | .holding => { x with motion := .idle, offTarget := false }
  | .homing => { x with motion := x.cal.motion, offTarget := true, perMille := p }
  | .absent | .unhomed | .idle | .faulted => x

/-- The completion that the end of a fader's service writes: an entry's with the fader's class and tag, a slot's with the
slot's own, a homing's with class Home and tag 0, and the present per-mille under the calibration record as final position
(R28, R35, R37, R47, R70). -/
def State.serviceRecord (s : State) (f : FaderId) (o : EndOutcome) : Option Completion :=
  let x := s.fader f
  match x.motion with
  | .waiting => (s.entryFor f).map fun e => ⟨f, o, .none, x.cls, x.tag, e.marks, false, x.perMille, false⟩
  | .moving | .holding =>
    (s.slotFor f).map fun p => ⟨f, o, .none, p.2.cls, p.2.tag, p.2.marks, false, x.perMille, false⟩
  | .homing => (s.slotFor f).map fun p => ⟨f, o, .none, .home, 0, p.2.marks, false, s.unparkedPerMille f, false⟩
  | .absent | .unhomed | .idle | .faulted => none

/-- A fader's service ended with an outcome: its entry has left the queue, its slot is free, its record says so, and one
completion is written where it was serving (R28, R35, R37, R136, R138). -/
def State.serviceEnded (s : State) (f : FaderId) (o : EndOutcome) : State :=
  { s with
    faders := s.faders.set f ((s.fader f).afterEnd (s.unparkedPerMille f))
    queue := { s.queue with entries := s.queue.entries.filter fun e => decide (e.fader ≠ f) }
    table := { s.table with slots := s.table.slots.map fun o => o.filter fun sl => decide (sl.fader ≠ f) }
    completions :=
      match s.serviceRecord f o with
      | none => s.completions
      | some c => writeRecord c s.completions }

/-- The faders of the occupied slots, in slot number order (R37). -/
def State.slotFaders (s : State) : List FaderId :=
  (List.finRange 16).filterMap fun i => (s.slot i).map Slot.fader

/-- The fitted faders of a bay, in position order (R136, R138). -/
def State.fittedFaders (s : State) (b : BayId) : List FaderId :=
  ((List.finRange 8).filter fun p => (s.bay b).fits p).map fun p => faderAt b p

/-! ### What a frame expiry ends -/

/-- A slot after the count of a frame expiry: the age of a move or of Park (R54, R68), the hold timer (R55), or the phase age
of Down and Up (R65). -/
def Slot.counted (sl : Slot) : Slot :=
  match sl.use, sl.phase with
  | .moving, _ | .homing, .park => { sl with age := sl.age + 1 }
  | .holding, _ => { sl with holdTimer := sl.holdTimer - 1 }
  | .homing, .down | .homing, .up => { sl with phaseAge := sl.phaseAge + 1 }

/-- The counts of a frame expiry: the slots that have not counted it early, the guard timers (R75), and the quiet interval
unless it has counted it early (R149). -/
def State.counted (s : State) : State :=
  { s with
    table := { s.table with
      slots := Vector.ofFn fun i => if s.early.slots[i] then s.slot i else (s.slot i).map Slot.counted }
    faders := s.faders.map fun x =>
      { x with guardTimer := if x.touch = .releasing then x.guardTimer - 1 else x.guardTimer }
    attn := { s.attn with quiet := if s.early.quiet then s.attn.quiet else s.attn.quiet - 1 } }

/-- A fader of a bay that is lost, or of a position that is no longer fitted: its service ends BayLost, and it is Absent and
Untouched, its position held with stale set, its pending target discarded (R85, R136, R137). -/
def State.faderLost (s : State) (f : FaderId) : State :=
  (s.serviceEnded f .bayLost).modFader f fun y =>
    { y with motion := .absent, stale := true, touch := .untouched, touchRun := 0, releaseRun := 0, guardTimer := 0,
             pendingTarget := none }

/-- The sense window of a bay closes at a frame expiry: unanswered, it is a missed frame, which makes every drive of the bay's
slots 0 and is taken by the bay's state (R51, R131, R132, R133, R136). -/
def State.windowClosed (s : State) (b : BayId) : State :=
  let x := s.bay b
  let zeroed (y : Bay) : State := { s.setBay b { y with window := .closed } with
    table := { s.table with
      slots := s.table.slots.map fun o => o.map fun sl => if bayOf sl.fader = b then { sl with drive := 0 } else sl } }
  if x.window ≠ .opened then s.setBay b { x with window := .closed }
  else
    match x.state with
    | .absent | .lost => zeroed x
    | .joining => zeroed { x with joinRun := 0, state := if x.origin = .absent then .absent else .lost }
    | .present =>
      if x.missRun < 2 then zeroed { x with missRun := x.missRun + 1 }
      else
        let t := (s.fittedFaders b).foldl State.faderLost (zeroed { x with state := .lost, missRun := 0, supplyFault := false })
        State.arbitrate { t with attn := { t.attn with events := { t.attn.events with bayLost := true } } }

/-- What the counts of a frame expiry end in a slot: a move or a Park over the move limit TimedOut, a hold at 0, a homing over
the home limit HomeFailed; the slot is free, and the arbiter decides (R54, R55, R65, R66, R68). -/
def State.slotEnded (s : State) (i : SlotId) : State :=
  match s.slot i with
  | none => s
  | some sl =>
    let f := sl.fader
    let x := s.fader f
    let record (o : EndOutcome) (cls : ReqClass) (tag : Tag) : List Completion :=
      writeRecord ⟨f, o, .none, cls, tag, sl.marks, false, x.perMille, false⟩ s.completions
    let freed (y : Fader) (q : List Completion) (fault : Bool) : State :=
      State.arbitrate { (s.setSlot i none).setFader f y with
        completions := q
        attn := { s.attn with events := { s.attn.events with faderFault := s.attn.events.faderFault || fault } } }
    match sl.use, sl.phase with
    | .moving, _ =>
      if s.setup.moveLimit < sl.age then
        freed { x with motion := .idle, offTarget := true, cal := { x.cal with cause := .timedOut } }
          (record .timedOut sl.cls sl.tag) true
      else s
    | .holding, _ =>
      if sl.holdTimer = 0 then freed { x with motion := .idle, offTarget := false } s.completions false else s
    | .homing, .park =>
      if s.setup.moveLimit < sl.age then
        freed { x with
          motion := x.cal.motion, offTarget := true, perMille := perMilleOfRaw x.cal.low x.cal.high x.raw,
          cal := { x.cal with cause := .timedOut } } (record .timedOut .home 0) true
      else s
    | .homing, p =>
      if s.setup.homeLimit < sl.phaseAge then
        freed { x with
          motion := .faulted, offTarget := true,
          cal := { x.cal with latched := true, cause := if p = .down then .homeDown else .homeUp } }
          (record .homeFailed .home 0) true
      else s

/-- A guard timer at 0 ends Releasing: in Follow mode the pending target is reissued as recorded, otherwise the target is where
the fader stands (R75, R80). -/
def State.releasingEnded (s : State) (f : FaderId) : State :=
  let x := s.fader f
  let y := { x with touch := .untouched, touchRun := 0, guardTimer := 0, pendingTarget := none }
  if x.touch = .releasing ∧ x.guardTimer = 0 then
    match x.mode, x.pendingTarget with
    | .follow, some p => (s.setFader f y).accept ⟨f, p.gain, p.cls, p.tag, p.ramp, p.marks⟩
    | _, _ => s.setFader f
        { y with targetGain := gainOfPerMille s.law x.perMille, targetPos := x.perMille, offTarget := false }
  else s

/-- Whether a cue's guard holds (R99). -/
def State.guardHolds (s : State) (c : Cue) : Bool :=
  let inGroup (f : FaderId) : Bool := (s.fader f).groups.getLsbD c.group.toNat
  let held (f : FaderId) : Bool := (s.fader f).touch != .untouched
  let all := List.finRange 48
  match c.guard with
  | .always => true
  | .noneTouched => all.all fun f => !(inGroup f && held f)
  | .anyTouched => all.any fun f => inGroup f && held f
  | .allTouched => all.any inGroup && all.all fun f => !inGroup f || held f

/-- A cue that has left the list is judged at a surface time: Dropped, Skipped (latched), Skipped (guard), or issued as a
request; CUE_EXCEPTION in every case but the last on time (R98, R99, R100). -/
def State.cueJudged (s : State) (c : Cue) (now : BitVec 32) : State :=
  let late := lateness c.due now
  let x := s.fader c.fader
  let excepted (u : State) : State :=
    { u with attn := { u.attn with events := { u.attn.events with cueException := true } } }
  let ended (o : EndOutcome) (cause : SkipCause) : State :=
    excepted { s with
      completions := writeRecord
        ⟨c.fader, o, cause, .cue, c.tag, ⟨decide (1 ≤ late), false⟩, false, x.perMille, false⟩ s.completions }
  if s.cues.lateLimit < late then ended .dropped .none
  else if x.latched then ended .skipped .latched
  else if !s.guardHolds c then ended .skipped .guard
  else (if late = 0 then s else excepted s).accept ⟨c.fader, c.gain, .cue, c.tag, c.ramp, ⟨decide (1 ≤ late), false⟩⟩

/-- The cues to be judged at a surface time: in Running those that are due, in list order (R97). -/
def State.judgedAt (s : State) : List Cue :=
  if s.queue.run = .running then s.cues.cues.filter fun c => isDue c.due s.cues.surface else []

/-- Some cues leave the list and are judged at the surface time in force, in their order, each whole before the next (R97). -/
def State.cuesJudged (s : State) (l : List Cue) : State :=
  l.foldl
    (fun u c => State.cueJudged { u with cues := { u.cues with cues := u.cues.cues.erase c } } c s.cues.surface) s

/-- Surface time and the cue list as the advance of the coming expiry leaves them before a cue fires: surface time goes on by 1
and the list is in order for it, unless they are so already (R87, R90). -/
def State.surfaceReached (s : State) : State :=
  if s.early.advance = .coming then
    { s with cues := { s.cues with surface := s.cues.surface + 1, cues := sortCues (s.cues.surface + 1) s.cues.cues } }
  else s

/-- The advance of a frame expiry, as far as it is not taken: every cue to be judged is judged (R87, R97). -/
def State.advanced (s : State) : State :=
  if s.early.advance = .taken then s else s.surfaceReached.cuesJudged s.surfaceReached.judgedAt

/-- Nothing but sense frames can come between the cues of one advance: while cues of an advance are still to fire, RESET is not
asserted, and the CUE_FIRING that goes on with them waits behind sense frames only (R87, R97, R99). -/
abbrev State.advanceWhole (s : State) : Prop :=
  s.early.advance = .firing → s.bus.inReset = false ∧
    ∃ frames rest, s.pending = frames ++ .cueFiring :: rest ∧ ∀ c ∈ frames, ∃ b bytes, c = .senseFrame b bytes

/-! ### What a frame of a bay does to one of its faders -/

/-- The fitted bit of a fader changes: one that went clear loses the fader, one that went set brings it out of Absent with the
state its calibration record gives (R135, R137). -/
def State.fittedChanged (s : State) (f : FaderId) (was now : Bool) : State :=
  if was && !now then s.faderLost f
  else if !was && now then s.setFader f { s.fader f with motion := (s.fader f).cal.motion }
  else s

/-- A fader takes a raw position: its per-mille under the calibration in force, stale clear, and the setpoint of its homing in
Down or Up (R3, R58, R61). -/
def State.positionTaken (s : State) (f : FaderId) (raw : Nat) : State :=
  let c := s.calInForce f
  { s.setFader f { s.fader f with raw := raw, perMille := perMilleOfRaw c.1 c.2 raw, stale := false } with
    table := { s.table with
      slots := s.table.slots.map fun o => o.map fun sl =>
        if sl.fader = f ∧ sl.use = .homing ∧ sl.phase ≠ .park then { sl with setpoint := raw } else sl } }

/-! ### The fields of a word -/

/-- A word holds the given fields, each as (first bit, width, value) and read as its value where the width holds it; its other
bits are 0 (chapter 12, R161). -/
def holdsFields (v : Word) (l : List (Nat × Nat × Nat)) : Prop :=
  (∀ e ∈ l, e.2.2 < 2 ^ e.2.1 → fieldNat v e.1 e.2.1 = e.2.2) ∧
    ∀ k, (∀ e ∈ l, k < e.1 ∨ e.1 + e.2.1 ≤ k) → v.getLsbD k = false

/-- A read of a word of the image returns the given fields, and 0 in every other bit (R159, R161). -/
def State.reads (s : State) (w : ImageWord) (l : List (Nat × Nat × Nat)) : Prop :=
  ∃ v, s.overlay w = some v ∧ holdsFields v l

/-- The two's complement code of a number in a field of `len` bits (chapter 12). -/
def twos (len : Nat) (z : Int) : Nat :=
  (z % 2 ^ len).toNat

/-- A source of attention pending with a level makes the line assert: enabled, above the threshold, and either of level 7
or met by no quiet interval (R150). -/
def Attention.asserts (a : Attention) (level : Nat) : Prop :=
  0 < level ∧ a.threshold < level ∧ (level = 7 ∨ a.quiet = 0)

/-- A source considered for the attention word: pending, and hard or enabled (R151). -/
def State.considered (s : State) (n : Nat) : Prop :=
  1 ≤ n ∧ n ≤ 10 ∧ s.sourcePending n = true ∧ 0 < s.attn.level n

end Sys2Proof.Machine
end

