-- ==== Sys2Proof/WellFormed.lean ====
section
/-! DEFINITION. When a command stands for something that can happen at the part's connections: an access writes at
least one byte lane (R156), an address is that of an aligned word (R155), a sense frame has 20 bytes (section 12.8), and
an UNKNOWN_COMMAND carries a code that its word does not list (R162). -/

namespace Sys2Proof

/-- A write carries from one to four byte lanes (R156). -/
def Lanes.nonEmpty (w : Lanes) : Bool :=
  w.lane0.isSome || w.lane1.isSome || w.lane2.isSome || w.lane3.isSome

/-- Whether a command word lists a code, the no-command code 0 included (section 12.5, R148). -/
def CommandWord.lists (cw : CommandWord) (code : Byte) : Bool :=
  match cw with
  | .runControl => code == 0 || code == 1 || code == 2 || code == 3
  | .faderCommand _ => code == 0 || code == 1 || code == 2
  | .cueArm => code == 0 || code == 0x5A
  | .cueCancel => code == 0 || code == 0x3C
  | .recallCommit => code == 0 || code == 0xC1 || code == 0xD0
  | .taperCommit => code == 0 || code == 0x7E
  | .scaleCommit => code == 0 || code == 0x7F
  | .acknowledge => code.toNat ≤ 10

/-- The well-formed commands. -/
def Instr.wellFormed (c : Instr) : Bool :=
  match c with
  | .senseFrame _ bytes => bytes.length == 20
  | .targetWrite _ w => w.nonEmpty
  | .controlWrite _ w => w.nonEmpty
  | .setAlias _ w => w.nonEmpty
  | .clearAlias _ w => w.nonEmpty
  | .toggleAlias _ w => w.nonEmpty
  | .levelIntake _ w => w.nonEmpty
  | .surfaceTimeSet w => w.nonEmpty
  | .slotLimitWrite w => w.nonEmpty
  | .quietWrite w => w.nonEmpty
  | .setupWrite _ w => w.nonEmpty
  | .stagingWrite _ w => w.nonEmpty
  | .wordWrite addr w => w.nonEmpty && addr.toNat % 4 == 0
  | .acknowledge n _ => n != 0 && n.toNat ≤ 10
  | .unknownCommand cw code _ => !cw.lists code
  | .reset | .resetRelease _ | .frameExpiry | .cueFiring | .intakeTimeout _ | .moveTimeout _ | .parkTimeout _
  | .holdExpiry _ | .homeLimitExceeded _ | .releasingEnd _ | .quietIntervalEnd | .missedFrame _ | .slotGrant
  | .preEmption | .stop _ | .resume _ | .restart _ | .home _ _ | .release _ _ | .cueArm _ | .cueCancel _ | .commit _
  | .undo _ | .taperCommit _ | .scaleCommit _ | .presentGainRead _ | .portARead | .portBRead | .movedWordRead _
  | .readout2Read _ => true

end Sys2Proof
end

