-- ==== Sys2Proof/Certificates/Slice0/Obligations.lean ====
section
/-! DEFINITION. The statements for the provers, each with the rules of spec/ it rests on: what every command does, what it
leaves unchanged, and the invariants that every step keeps. -/

section

open Sys2Proof Sys2Proof.Machine

/-! ### The queue of commands, the line and the attention word -/

/-- A step takes the command at the front of the queue, with the queue's rest left waiting; on an empty queue the block
idles, which is the model's choice (notes/assumptions/2.md). -/
def Obligations.StepTakesFrontCommand : Prop :=
  (∀ (c : Instr) (rest : List Instr) (s : State), s.pending = c :: rest → step s = exec c { s with pending := rest }) ∧
    ∀ s : State, s.pending = [] → step s = .next s

/-- Every command completes, in every state, and leaves the queue of the waiting commands as it is: no access is held back and
no bus error is signalled (R154). The part begins no access of its own: memory changes only by a write on the bus (R160). -/
def Obligations.EveryCommandCompletes : Prop :=
  ∀ (c : Instr) (s : State), ∃ t, exec c s = .next t ∧ t.pending = s.pending ∧
    (busForm c = none → (∀ addr l, c ≠ .wordWrite addr l) → t.mem = s.mem)

/-- After every command ATTN is asserted exactly when a hard source is pending, or an enabled source is pending with level
above the threshold and either its level is 7 or no quiet interval is running (R150). -/
def Obligations.AttnLineFollowsRule : Prop :=
  ∀ (c : Instr) (s t : State), exec c s = .next t →
    (t.attn.line = true ↔
      t.attn.events.bayLost = true ∨ t.attn.events.supplyFault = true ∨
        (t.completions ≠ [] ∧ t.attn.asserts t.attn.levels[0]) ∨
        ((∃ f, (t.fader f).moved = true) ∧ t.attn.asserts t.attn.levels[1]) ∨
        (t.attn.events.cueException = true ∧ t.attn.asserts t.attn.levels[2]) ∨
        (t.attn.events.stagingRefused = true ∧ t.attn.asserts t.attn.levels[3]) ∨
        (t.attn.events.faderFault = true ∧ t.attn.asserts t.attn.levels[4]) ∨
        (t.attn.events.meterOver = true ∧ t.attn.asserts t.attn.levels[5]) ∨
        (t.attn.events.meterStale = true ∧ t.attn.asserts t.attn.levels[6]) ∨
        (t.attn.events.bayJoined = true ∧ t.attn.asserts t.attn.levels[7]))

/-- The attention word names, among the sources considered, one of the highest level and, of equal levels, the lowest
number, with its level, and every other bit 0; the whole word is 0 when none is considered (R151, R161). -/
def Obligations.AttentionWordNamesMostUrgent : Prop :=
  ∀ s : State, (∀ i : Fin 8, s.attn.levels[i] ≤ 7) →
    ((∀ n, ¬s.considered n) ∧ s.overlay .attention = some 0) ∨
      ∃ n, s.considered n ∧ s.reads .attention [(0, 4, n), (8, 4, s.attn.level n)] ∧
        ∀ m, s.considered m → s.attn.level m ≤ s.attn.level n ∧ (s.attn.level m = s.attn.level n → n ≤ m)

/-! ### The surface image and the bus path -/

/-- Every named word has its own aligned place in the 64 KiB image, at the offset of the tables: its four bytes, and no others,
are found as that word (section 12.1, 12.2, 12.4). -/
def Obligations.ImageMapIsOneToOne : Prop :=
  (∀ (w : ImageWord) (k : Nat), k < 4 → w.offset % 4 = 0 ∧ w.offset + k < 65536 ∧ wordAt (w.offset + k) = some w) ∧
    (∀ (off : Nat) (w : ImageWord), wordAt off = some w → off - off % 4 = w.offset) ∧
    (∀ e ∈ ([(.command .runControl, 0x000), (.motionStatus, 0x004), (.slotLimit, 0x008), (.setup .stallSetup, 0x00C),
        (.setup .moveLimit, 0x010), (.setup .homingA, 0x014), (.setup .homingB, 0x018), (.setup .touchSetup, 0x01C),
        (.setup .cutPosition, 0x020), (.setup .lateLimit, 0x024), (.surfaceTime, 0x028), (.cueStatus, 0x02C),
        (.nextDue, 0x030), (.staging .cueTag, 0x034), (.staging .cueDue, 0x038), (.staging .cueGain, 0x03C),
        (.staging .cueGuard, 0x040), (.command .cueArm, 0x044), (.command .cueCancel, 0x048),
        (.command .recallCommit, 0x04C), (.historyFirst, 0x050), (.historySecond, 0x054), (.command .taperCommit, 0x058),
        (.command .scaleCommit, 0x05C), (.portA, 0x060), (.portB, 0x064), (.depth, 0x068), (.attention, 0x06C),
        (.setup .levelsFirst, 0x070), (.setup .levelsSecond, 0x074), (.setup .attentionControl, 0x078), (.quiet, 0x07C),
        (.command .acknowledge, 0x080), (.lastRefusal, 0x084), (.moved .low, 0x088), (.moved .high, 0x08C),
        (.staging .taperCount, 0x200)] : List (ImageWord × Nat)), e.1.offset = e.2) ∧
    (∀ k : Fin 16, (ImageWord.slotStatus k).offset = 0x100 + 4 * k.val ∧
      (ImageWord.staging (.taperPoint k)).offset = 0x204 + 4 * k.val) ∧
    (∀ b, (ImageWord.bayStatus b).offset = 0x140 + 4 * b.val) ∧
    (∀ i, (ImageWord.staging (.scaleThreshold i)).offset = 0x280 + 4 * i.val) ∧
    ∀ n : Fin 48, (ImageWord.staging (.recallPair n)).offset = 0x400 + 4 * n.val ∧
      (∀ e ∈ ([(.target n, 0x00), (.presentGain n, 0x04), (.presentPosition n, 0x08), (.faderState n, 0x0C),
          (.pendingA n, 0x10), (.pendingB n, 0x14), (.targetPosition n, 0x18), (.calibration n, 0x1C), (.faderTag n, 0x20),
          (.control n, 0x24), (.controlAlias .set n, 0x28), (.controlAlias .clear n, 0x2C), (.controlAlias .toggle n, 0x30),
          (.setup (.faderA n), 0x34), (.setup (.faderB n), 0x38), (.command (.faderCommand n), 0x3C)] :
          List (ImageWord × Nat)), e.1.offset = 0x1000 + 0x40 * n.val + e.2) ∧
      ∀ e ∈ ([(.intake n, 0x00), (.setup (.meterA n), 0x04), (.setup (.meterB n), 0x08), (.setup (.meterC n), 0x0C),
          (.readout1 n, 0x10), (.readout2 n, 0x14)] : List (ImageWord × Nat)), e.1.offset = 0x2000 + 0x20 * n.val + e.2

/-- A bus command and the access it is decode to each other: the access of every well-formed bus command is that command,
and a command found for an access of one to four lanes is well-formed and is that access (section 12.5, R157). For Stop, Resume,
Restart and an unknown code of the run control word this rests on the code being bits 0..7 with any upper lanes: the run control
field is the model's choice (notes/assumptions/28.md). -/
def Obligations.BusWritesDecode : Prop :=
  (∀ (c : Instr) (word : ImageWord) (l : Lanes), c.wellFormed = true → busForm c = some (word, l) →
      writeOf word l = some c) ∧
    ∀ (word : ImageWord) (l : Lanes) (c : Instr), writeOf word l = some c →
      busForm c = some (word, l) ∧ (l.nonEmpty = true → c.wellFormed = true)

/-- A write at any byte address of a named word's four does exactly what the command of that word does, in every state: that
WORD_WRITE acts by the class of the word it hits is deduced (R154, R155; notes/assumptions/8.md), and that both reach memory
at the word's address while RESET is asserted is the model's choice (notes/assumptions/7.md). So is it that the code of the run
control word is its lane 0, whatever the upper lanes (the run control field, notes/assumptions/28.md), and that an ill-formed
UNKNOWN_COMMAND, whose word lists its code, does what that code does (notes/assumptions/9.md). -/
def Obligations.WordWriteActsAsItsRow : Prop :=
  ∀ (c : Instr) (word : ImageWord) (l : Lanes) (s : State) (k : Nat), k < 4 → busForm c = some (word, l) →
    exec (.wordWrite (BitVec.ofNat 32 (s.addressOf word + k)) l) s = exec c s

/-- A write outside the image, in an undefined word, in a live or removing word, or of the no-command code to a
command word passes to memory on the lanes written and changes nothing else (R154, R155, R157). A read of a named word
returns the part's value on all four lanes, and a read of a staging word, of an undefined word or outside the image
returns memory's data (R154, R155, R159). The live words of the control block, the slots, bays and meters read the fields
of section 12.3 and 12.4 with every other bit 0: motion status (R30), slot status (R48), cue status and next due (R101),
history status (R110), the first readout (R125), bay status (R140), depth (R146) and last refusal (R152); and so do the
target, control, slot limit, surface time, quiet and intake words, their codes being those of section 12.5. That the
no-command code of the run control word is a 0 or absent lane 0, whatever its other lanes, is the model's choice
(notes/assumptions/28.md); that an address has 32 bits is presumed, and that code 0 is a WORD_WRITE deduced
(notes/assumptions/8.md). -/
def Obligations.AccessesPassOrAreOverlaid : Prop :=
  (∀ (addr : BitVec 32) (l : Lanes) (s : State),
    (addr.toNat < s.imageBase ∨ s.imageBase + 65536 ≤ addr.toNat ∨ wordAt (addr.toNat - s.imageBase) = none ∨
        ∃ w, wordAt (addr.toNat - s.imageBase) = some w ∧
          (w.wordClass = .live ∨ w.wordClass = .removing ∨ (w.wordClass = .command ∧ l.lane0.getD 0 = 0))) →
      ∃ m, storesAt s.mem m (addr.toNat - addr.toNat % 4) l ∧
        exec (.wordWrite addr l) s = .next (State.driveAttn { s with mem := m })) ∧
  (∀ (s : State) (k : Nat), k < 4 → s.bus.inReset = false →
    (∀ (w : ImageWord) (v : Word), s.overlay w = some v → s.busRead (s.addressOf w + k) = Lanes.full v) ∧
      (∀ w : ImageWord, w.wordClass = .staging →
        s.busRead (s.addressOf w + k) = Memory.readLanes s.mem (s.addressOf w)) ∧
      (∀ w : ImageWord, w.wordClass ≠ .staging → (s.overlay w).isSome = true) ∧
      (∀ w : ImageWord, w.wordClass = .command → s.overlay w = some 0) ∧
      ∀ a : Nat, a < s.imageBase ∨ s.imageBase + 65536 ≤ a ∨ wordAt (a - s.imageBase) = none →
        s.busRead a = Memory.readLanes s.mem (a - a % 4)) ∧
  (∀ s : State,
    (s.queue.entries = [] → s.reads .motionStatus [(0, 1, s.queue.run.code), (8, 5, s.occupied)]) ∧
      (∀ (e : Entry) (rest : List Entry), s.queue.entries = e :: rest →
        s.reads .motionStatus [(0, 1, s.queue.run.code), (1, 6, rest.length + 1), (8, 5, s.occupied),
          (16, 6, e.fader.val), (22, 1, e.kind.code), (24, 2, e.cls.code), (31, 1, 1)]) ∧
      (∀ i, s.slot i = none → s.reads (.slotStatus i) []) ∧
      (∀ (i : SlotId) (sl : Slot) (fr : DriveFrame), s.slot i = some sl → (s.bay (bayOf sl.fader)).sent = some fr →
        s.reads (.slotStatus i) [(0, 8, twos 8 fr.faders[positionOf sl.fader].drive), (8, 12, sl.setpoint),
          (20, 6, sl.fader.val), (26, 2, sl.use.code), (28, 2, if sl.use = .homing then sl.phase.code else 0),
          (31, 1, 1)]) ∧
      (s.cues.cues = [] → s.reads .cueStatus [] ∧ s.overlay .nextDue = some 0) ∧
      (∀ (c : Cue) (rest : List Cue), s.cues.cues = c :: rest →
        s.reads .cueStatus [(0, 9, rest.length + 1), (9, 1, 1), (10, 6, c.fader.val), (16, 16, c.tag.toNat)] ∧
          s.overlay .nextDue = some c.due) ∧
      s.reads .historyFirst [(0, 3, s.recalls.history.length),
        (16, 16, (s.recalls.history.head?.map fun e => e.number.toNat).getD 0)] ∧
      s.reads .historySecond [(0, 16, s.recalls.number.toNat)] ∧
      s.reads .depth [(0, 6, s.completions.length)] ∧ s.reads .lastRefusal [(0, 8, s.attn.lastRefusal.code)] ∧
      (∀ b, s.reads (.bayStatus b) [(0, 2, (s.bay b).state.code), (4, 4, (s.bay b).joinRun), (8, 2, (s.bay b).missRun),
        (16, 8, (s.bay b).fitted.toNat), (24, 1, (s.bay b).supplyFault.toNat), (25, 1, (s.bay b).supplyGood.toNat)]) ∧
      s.reads .slotLimit [(0, 8, s.table.limit)] ∧ s.overlay .surfaceTime = some s.cues.surface ∧
      s.reads .quiet [(0, 16, s.attn.quiet)] ∧
      ∀ n : Fin 48,
        s.reads (.readout1 n) [(0, 16, twos 16 (s.meter n).level), (16, 16, twos 16 (s.meter n).hold)] ∧
          s.reads (.intake n) [(0, 16, twos 16 (s.meter n).lastIntake)] ∧
          s.reads (.target n) [(0, 16, twos 16 (s.fader n).targetGain.code)] ∧
          ∀ w ∈ [ImageWord.control n, .controlAlias .set n, .controlAlias .clear n, .controlAlias .toggle n],
            s.reads w [(0, 2, (s.fader n).mode.code), (8, 8, (s.fader n).groups.toNat), (16, 1, (s.fader n).latched.toNat),
              (17, 1, (s.fader n).inhibit.toNat)]) ∧
  (RunState.running.code = 0 ∧ RunState.stopped.code = 1 ∧ EntryKind.move.code = 0 ∧ EntryKind.home.code = 1 ∧
    [ReqClass.recall, .cue, .direct, .home].map ReqClass.code = [0, 1, 2, 3] ∧
    [Mode.manual, .follow, .latch].map Mode.code = [0, 1, 2] ∧
    [SlotUse.moving, .holding, .homing].map SlotUse.code = [0, 1, 2] ∧
    [HomingPhase.down, .up, .park].map HomingPhase.code = [0, 1, 2] ∧
    [BayState.absent, .joining, .present, .lost].map BayState.code = [0, 1, 2, 3] ∧
    [RefusalReason.none, .cueListFull, .cueBadFader, .cueBadRamp, .cueBadGuard, .recallBadCount, .recallBadFader,
      .recallDuplicate, .stopped, .historyEmpty, .taperBadCount, .taperBadEnds, .taperNotIncreasing, .scaleNotAscending,
      .unknownCommand].map RefusalReason.code = List.range 15 ∧
    Gain.off.code = -32768 ∧ ∀ v, (Gain.cdb v).code = v)

/-- A write of an alias is a write of the whole control word, its bits set, cleared or inverted where the operand's
are set; it is redirected, so that memory at the alias is not written (R158). The lanes a write carries replace those
of the word's value and leave the others; an unwritten lane of a pulse or of an alias operand counts as 0 (R156, R157,
R158). -/
def Obligations.AliasesAndWrittenLanes : Prop :=
  (∀ (k : AliasKind) (f : FaderId) (l : Lanes) (s : State), s.bus.inReset = false →
    let c : Instr := match k with | .set => .setAlias f l | .clear => .clearAlias f l | .toggle => .toggleAlias f l
    let off := 0x1000 + 0x40 * f.val + match k with | .set => 0x28 | .clear => 0x2C | .toggle => 0x30
    ∃ (v : Word) (t : State),
      (∀ i, i < 32 → v.getLsbD i =
        let operand := ((laneByte l (i / 8)).getD 0).getLsbD (i % 8)
        let current := (s.fader f).control.toWord.getLsbD i
        match k with | .set => current || operand | .clear => current && !operand | .toggle => current ^^ operand) ∧
        exec c s = .next t ∧ exec (.controlWrite f (Lanes.full v)) s = .next t ∧
        ∀ j, j < 4 → Memory.read t.mem (s.imageBase + off + j) = Memory.read s.mem (s.imageBase + off + j)) ∧
  (∀ (l : Lanes) (old : Word) (k : Nat), k < 4 →
    laneOf (l.merge old) k = (laneByte l k).getD (laneOf old k) ∧ laneOf l.zeroFilled k = (laneByte l k).getD 0 ∧
      laneByte (Lanes.full old) k = some (laneOf old k))

/-! ### RESET -/

/-- RESET brings every block to its RESET values and keeps memory (R1, R10, R40, R42, R57, R58, R72, R87, R90, R96, R104,
R107, R114, R121, R141, R147, R149, R153, R160). That it keeps the strap setting until the release is the model's choice
(notes/assumptions/6.md). Every bay's sequence number stands one before 0, so that its first drive frame carries 0 (R131,
R141; notes/assumptions/11.md); arrival stamps, hold stamps and capture numbers start afresh at 0, and nothing is taken of
the coming expiry (R25, R57, R90; the counts from 0 are the model's choice, notes/assumptions/20.md and 1.md). The release
of RESET samples the straps and the image base follows them; straps presented while RESET is not asserted have no effect
(R154; that a release is then without effect is deduced, notes/assumptions/5.md). -/
def Obligations.ResetAndItsRelease : Prop :=
  (∀ s : State, ∃ t, exec .reset s = .next t ∧
    t.bus.inReset = true ∧ t.bus.snapshot = none ∧ t.bus.imageSel = s.bus.imageSel ∧ t.mem = s.mem ∧
      t.attn.line = false ∧ t.queue.nextStamp = 0 ∧ t.table.nextHold = 0 ∧ t.cues.nextCapture = 0 ∧
      t.early.advance = .coming ∧ t.early.quiet = false ∧ (∀ m : MeterId, t.early.meters[m] = false) ∧
      (∀ i : SlotId, t.early.slots[i] = false) ∧
      (∀ f, (t.fader f).targetGain = .off ∧ (t.fader f).targetPos = 0 ∧ (t.fader f).pendingTarget = none ∧
        (t.fader f).control = ⟨.manual, 0, false, false⟩ ∧ (t.fader f).offTarget = false ∧
        (t.fader f).rangeClamped = false ∧ (t.fader f).roundedUp = false ∧ (t.fader f).motion = .absent ∧
        (t.fader f).touch = .untouched ∧ (t.fader f).touchRun = 0 ∧ (t.fader f).releaseRun = 0 ∧
        (t.fader f).guardTimer = 0 ∧ (t.fader f).cls = .direct ∧ (t.fader f).tag = 0 ∧ (t.fader f).raw = 0 ∧
        (t.fader f).perMille = 0 ∧ (t.fader f).stale = true ∧ (t.fader f).moved = false ∧
        (t.fader f).setup = ⟨6, 3, 40, 100, 12, 60, 200⟩ ∧ (t.fader f).cal = ⟨0, 4095, false, false, .none⟩ ∧
        t.presentGain f = .off) ∧
      t.law = ⟨[⟨0, -9000⟩, ⟨60, -6000⟩, ⟨150, -4000⟩, ⟨250, -3000⟩, ⟨350, -2000⟩, ⟨450, -1500⟩, ⟨550, -1000⟩,
        ⟨650, -500⟩, ⟨750, 0⟩, ⟨875, 500⟩, ⟨1000, 1000⟩], 5⟩ ∧
      t.queue.run = .running ∧ t.queue.entries = [] ∧ (∀ i, t.slot i = none) ∧ t.table.limit = 16 ∧
      t.setup = ⟨40, 8, 2000, 1500, 20, 2, 2000, 150, 5⟩ ∧ t.cues.surface = 0 ∧ t.cues.cues = [] ∧
      t.cues.lateLimit = 500 ∧ t.recalls = ⟨0, []⟩ ∧
      (∀ m, t.meter m = ⟨-6000, -6000, 0, -6000, 0, false, false, 0, ⟨.peak, 12, 1, 1500, 1800, 3, 100⟩⟩) ∧
      t.engine.scale = (List.range 32).map (fun i => -6000 + 250 * (i : Int)) ∧
      (∀ b, (t.bay b).state = .absent ∧ (t.bay b).origin = .absent ∧ (t.bay b).joinRun = 0 ∧ (t.bay b).missRun = 0 ∧
        (t.bay b).window = .closed ∧ (t.bay b).fitted = 0 ∧ (t.bay b).supplyFault = false ∧
        (t.bay b).supplyGood = true ∧ (t.bay b).seq + 1 = 0 ∧ (t.bay b).sent = none) ∧
      t.completions = [] ∧ (∀ i : Fin 8, t.attn.levels[i] = 3) ∧ t.attn.threshold = 0 ∧ t.attn.quiet = 0 ∧
      t.attn.events = ⟨false, false, false, false, false, false, false, false⟩ ∧ t.attn.lastRefusal = .none ∧
      t.staging.cueTag = 0 ∧ t.staging.cueDue = 0 ∧ t.staging.cueGain = 0 ∧ t.staging.cueGuard = 0 ∧
      t.staging.taperCount = 0 ∧ (∀ k : Fin 16, t.staging.taperPoints[k] = 0) ∧ (∀ i : Fin 32, t.staging.scale[i] = 0) ∧
      ∀ j : Fin 48, t.staging.pairs[j] = 0) ∧
  (∀ (n : BitVec 4) (s : State),
    (s.bus.inReset = true →
      ∃ t, s.answers (.resetRelease n) t ∧ t = { s with bus := { s.bus with inReset := false, imageSel := n } } ∧
        t.imageBase = n.toNat * 65536) ∧
      (s.bus.inReset = false → s.answers (.resetRelease n) s))

/-- While RESET is asserted the part is a plain bus connection: every bus command's write reaches memory as it was made and
nothing else changes, a read returns memory's data and acts on nothing, and no event of the part happens (R141, R154). That a
bus command then reaches its word's offset from the image base last held is the model's choice (notes/assumptions/7.md). -/
def Obligations.ResetMakesThePartPlain : Prop :=
  ∀ s : State, s.bus.inReset = true →
    (∀ (c : Instr) (word : ImageWord) (l : Lanes), busForm c = some (word, l) → s.writes c word.offset l s) ∧
      (∀ (addr : BitVec 32) (l : Lanes), ∃ m, storesAt s.mem m (addr.toNat - addr.toNat % 4) l ∧
        exec (.wordWrite addr l) s = .next (State.driveAttn { s with mem := m })) ∧
      (∀ (c : Instr) (word : ImageWord),
        (c, word) ∈ [(.portARead, .portA), (.portBRead, .portB), (.movedWordRead .low, .moved .low),
            (.movedWordRead .high, .moved .high)] ∨
          (∃ f, (c, word) = (.presentGainRead f, .presentGain f)) ∨ (∃ m, (c, word) = (.readout2Read m, .readout2 m)) →
        s.answers c { s with bus := { s.bus with readData := Memory.readLanes s.mem (s.imageBase + word.offset) } }) ∧
      ∀ c : Instr,
        c ∈ [.frameExpiry, .cueFiring, .quietIntervalEnd, .slotGrant, .preEmption] ∨
          (∃ i, c ∈ [.moveTimeout i, .parkTimeout i, .holdExpiry i, .homeLimitExceeded i]) ∨
          (∃ f, c = .releasingEnd f) ∨ (∃ m, c = .intakeTimeout m) ∨ (∃ b, c = .missedFrame b) ∨
          (∃ b bytes, c = .senseFrame b bytes) →
        s.answers c s

/-! ### Target requests -/

/-- A write of a target word is a Direct request with tag 0, ramp 0 and no marks for the gain of the merged word, and memory
receives on all four lanes the accepted gain, or the present gain while Stopped, or the gain still held under Latch mode
(R14, R156). -/
def Obligations.TargetWriteIsDirectRequest : Prop :=
  ∀ (f : FaderId) (l : Lanes) (s : State), s.bus.inReset = false →
    let x := s.fader f
    let gain := Gain.ofCode (fieldInt (l.merge (putInt 0 16 x.targetGain.code)) 0)
    let kept : Gain :=
      if x.touch ≠ .untouched then
        if x.mode = .latch then x.targetGain else (convertGain s.law.taper gain).accepted
      else if s.queue.run = .stopped then gainOfPerMille s.law x.perMille
      else (convertGain s.law.taper gain).accepted
    s.writes (.targetWrite f l) (0x1000 + 0x40 * f.val) (Lanes.full (putInt 0 16 kept.code))
      (s.accept ⟨f, gain, .direct, 0, 0, ⟨false, false⟩⟩)

/-- A request that moves nothing: held as the pending target in Manual and Follow mode, discarded in Latch mode with a
Skipped completion and CUE_EXCEPTION for class Cue, answered with the present gain while Stopped, and recorded only for a
blocked fader; the conversion's flags are set in each case (R6, R14, R15, R16, R17, R100). -/
def Obligations.RequestsThatMoveNothing : Prop :=
  ∀ (s : State) (r : Request),
    let x := s.fader r.fader
    let c := convertGain s.law.taper r.gain
    let y := { x with rangeClamped := c.clamped, roundedUp := c.roundedUp }
    (x.touch ≠ .untouched → x.mode ≠ .latch →
        s.accept r = s.setFader r.fader
          { y with pendingTarget := some ⟨c.accepted, r.cls, r.tag, r.ramp, r.marks⟩ }) ∧
      (x.touch ≠ .untouched → x.mode = .latch → r.cls ≠ .cue → s.accept r = s.setFader r.fader y) ∧
      (x.touch ≠ .untouched → x.mode = .latch → r.cls = .cue →
        s.accept r =
          { s.setFader r.fader y with
            completions :=
              writeRecord ⟨r.fader, .skipped, .latched, .cue, r.tag, r.marks, false, x.perMille, false⟩ s.completions
            attn := { s.attn with events := { s.attn.events with cueException := true } } }) ∧
      (x.touch = .untouched → s.queue.run = .stopped →
        s.accept r = s.setFader r.fader
          { y with targetGain := gainOfPerMille s.law x.perMille, targetPos := x.perMille, offTarget := false }) ∧
      (x.touch = .untouched → s.queue.run = .running →
        (x.motion = .absent ∨ x.motion = .unhomed ∨ x.motion = .faulted ∨ x.inhibit = true ∨
          (s.bay (bayOf r.fader)).supplyFault = true) →
        s.accept r = s.setFader r.fader
          { y with targetGain := c.accepted, targetPos := c.pos, cls := r.cls, tag := r.tag, offTarget := true })

/-- A request for an Idle fader, which holds no slot, arrives at once within the deadband and otherwise joins the wait queue
with a new stamp; one for a Waiting fader updates its entry in place, the class rising to the higher-ranked and kind and
stamp kept; then the arbiter decides (R8, R18, R26, R27, R43, R45). -/
def Obligations.RequestsThatWait : Prop :=
  ∀ (s : State) (r : Request),
    let x := s.fader r.fader
    let c := convertGain s.law.taper r.gain
    let target := rawOfPerMille x.cal.low x.cal.high c.pos
    let y := { x with
      rangeClamped := c.clamped, roundedUp := c.roundedUp, targetGain := c.accepted, targetPos := c.pos,
      offTarget := false, cls := r.cls, tag := r.tag }
    x.touch = .untouched → s.queue.run = .running → x.inhibit = false → (s.bay (bayOf r.fader)).supplyFault = false →
      (x.motion = .idle → s.slotFor r.fader = none → ((target : Int) - x.raw).natAbs ≤ x.setup.deadband →
          s.accept r =
            { s.setFader r.fader y with
              completions :=
                writeRecord ⟨r.fader, .arrived, .none, r.cls, r.tag, r.marks, false, x.perMille, false⟩
                  s.completions }) ∧
        (x.motion = .idle → s.slotFor r.fader = none → x.setup.deadband < ((target : Int) - x.raw).natAbs →
          s.accept r =
            State.arbitrate
              { s.setFader r.fader { y with motion := .waiting } with
                queue :=
                  { s.queue with
                    entries :=
                      insertEntry ⟨r.fader, .move, r.cls, r.tag, r.ramp, r.marks, s.queue.nextStamp⟩ s.queue.entries
                    nextStamp := s.queue.nextStamp + 1 } }) ∧
        ∀ e, x.motion = .waiting → s.entryFor r.fader = some e →
          let cls := if r.cls.code < e.cls.code then r.cls else e.cls
          s.accept r =
            State.arbitrate
              { s.setFader r.fader { y with cls := cls } with
                queue :=
                  { s.queue with
                    entries :=
                      insertEntry ⟨r.fader, e.kind, cls, r.tag, r.ramp, r.marks, e.stamp⟩
                        (s.queue.entries.filter fun d => decide (d.fader ≠ r.fader)) } }

/-- A request for a fader in a slot: a Moving slot keeps its setpoint and stall run and takes target, step, class, tag, ramp
and marks anew; a Holding slot returns to Moving; a homing takes ramp and marks, and in Park the new target under the found
pair, its class and tag staying Home and 0 (R18, R46, R52, R69). -/
def Obligations.RequestsInASlot : Prop :=
  ∀ (s : State) (r : Request) (i : SlotId) (sl : Slot),
    let x := s.fader r.fader
    let c := convertGain s.law.taper r.gain
    let y := { x with
      rangeClamped := c.clamped, roundedUp := c.roundedUp, targetGain := c.accepted, targetPos := c.pos,
      offTarget := false }
    let target := rawOfPerMille x.cal.low x.cal.high c.pos
    let parked := rawOfPerMille (sl.foundLow.getD x.cal.low) (sl.foundHigh.getD x.cal.high) c.pos
    x.touch = .untouched → s.queue.run = .running → x.inhibit = false → (s.bay (bayOf r.fader)).supplyFault = false →
      s.slotFor r.fader = some (i, sl) → x.motion = sl.use.motion →
        (sl.use = .moving →
            s.accept r = (s.setFader r.fader { y with cls := r.cls, tag := r.tag }).setSlot i (some { sl with
              targetRaw := target, step := stepFor sl.setpoint target r.ramp x.setup.slewLimit, cls := r.cls,
              tag := r.tag, ramp := r.ramp, marks := r.marks, settle := 0, age := 0 })) ∧
          (sl.use = .holding →
            s.accept r = (s.setFader r.fader { y with cls := r.cls, tag := r.tag, motion := .moving }).setSlot i (some
              { sl with
                use := .moving, targetRaw := target, step := stepFor sl.setpoint target r.ramp x.setup.slewLimit,
                cls := r.cls, tag := r.tag, ramp := r.ramp, marks := r.marks, settle := 0, age := 0, stallRun := 0,
                stallRef := none, holdTimer := 0, holdStamp := 0 })) ∧
          (sl.use = .homing → sl.phase ≠ .park →
            s.accept r = (s.setFader r.fader y).setSlot i (some { sl with ramp := r.ramp, marks := r.marks })) ∧
          (sl.use = .homing → sl.phase = .park →
            s.accept r = (s.setFader r.fader y).setSlot i (some { sl with
              targetRaw := parked, step := stepFor sl.setpoint parked r.ramp x.setup.slewLimit, ramp := r.ramp,
              marks := r.marks, settle := 0, age := 0 }))

/-! ### Control words and setup words -/

/-- A write of a control word that does not newly set inhibit takes mode, groups, latched and inhibit and changes nothing
else; memory receives all four lanes with reserved bits 0 and mode code 3 as Manual (R7, R156, R161, R162). -/
def Obligations.ControlWriteTakesFields : Prop :=
  ∀ (f : FaderId) (l : Lanes) (s : State), s.bus.inReset = false →
    let x := s.fader f
    let v := l.merge x.control.toWord
    let mode : Mode := if fieldNat v 0 2 = 1 then .follow else if fieldNat v 0 2 = 2 then .latch else .manual
    (fieldFlag v 17 = true → x.inhibit = true) →
      s.writes (.controlWrite f l) (0x1000 + 0x40 * f.val + 0x24)
        (Lanes.full ((v &&& 0x0003FF00) ||| if v &&& 3 = 3 then 0 else v &&& 3))
        (s.setFader f { x with
          mode := mode, groups := v.extractLsb' 8 8, latched := fieldFlag v 16, inhibit := fieldFlag v 17 })

/-- A control word write that sets inhibit where it was clear ends what the fader is serving with outcome Inhibited, by its
motion state, and then the arbiter decides (R7, R28, R35, R47, R70). -/
def Obligations.InhibitEndsService : Prop :=
  ∀ (f : FaderId) (l : Lanes) (s : State), s.bus.inReset = false → s.owned →
    let x := s.fader f
    let v := l.merge x.control.toWord
    let mode : Mode := if fieldNat v 0 2 = 1 then .follow else if fieldNat v 0 2 = 2 then .latch else .manual
    fieldFlag v 17 = true → x.inhibit = false →
      s.writes (.controlWrite f l) (0x1000 + 0x40 * f.val + 0x24)
        (Lanes.full ((v &&& 0x0003FF00) ||| if v &&& 3 = 3 then 0 else v &&& 3))
        (((s.setFader f { x with
          mode := mode, groups := v.extractLsb' 8 8, latched := fieldFlag v 16,
          inhibit := true }).serviceEnded f .inhibited).arbitrate)

/-- A level intake takes the level of the merged word, brought within -60.00..+20.00 dB, by the meter's kind, and memory
receives it: hold, display level with the rounding of its kind, over run and over latch, with METER_OVER raised when the
latch is set, and stale and the intake timer cleared (R115, R116, R117, R118, R120, R156). -/
def Obligations.LevelIntakeTakesLevel : Prop :=
  ∀ (m : MeterId) (l : Lanes) (s : State), s.bus.inReset = false →
    let y := s.meter m
    let z := fieldInt (l.merge (putInt 0 16 y.lastIntake)) 0
    let x : Int := if z < -6000 then -6000 else if 2000 < z then 2000 else z
    let run := if y.setup.overThreshold ≤ x then min (y.overRun + 1) y.setup.overCount else 0
    let latches := decide (y.setup.overThreshold ≤ x) && decide (run = y.setup.overCount) && !y.overLatch
    ∃ level : Int,
      (y.setup.kind = .peak → x ≤ y.level → level = y.level) ∧
        (y.setup.kind = .peak → y.level < x →
          (x - y.level) * y.setup.attack ≤ 16 * (level - y.level) ∧
            16 * (level - y.level) < (x - y.level) * y.setup.attack + 16) ∧
        (y.setup.kind = .average → y.level ≤ x →
          -8 < 16 * (level - y.level) - (x - y.level) * y.setup.attack ∧
            16 * (level - y.level) - (x - y.level) * y.setup.attack ≤ 8) ∧
        (y.setup.kind = .average → x < y.level →
          -8 ≤ 16 * (level - y.level) - (x - y.level) * y.setup.attack ∧
            16 * (level - y.level) - (x - y.level) * y.setup.attack < 8) ∧
        let u := s.setMeter m { y with
          level := level, hold := if y.hold ≤ x then x else y.hold,
          holdTimer := if y.hold ≤ x then y.setup.holdFrames else y.holdTimer, lastIntake := x, overRun := run,
          overLatch := y.overLatch || latches, stale := false, intakeTimer := 0 }
        s.writes (.levelIntake m l) (0x2000 + 0x20 * m.val) (Lanes.full (putInt 0 16 x))
          { u with attn := { s.attn with events :=
            { s.attn.events with meterOver := s.attn.events.meterOver || latches } } }

/-- A write of the surface time word sets surface time to the merged value, which memory receives, and fires nothing:
the same cues stand in the order of their leads at the new time, equal leads by capture number (R89, R90). A write of
the slot limit word takes its low byte, brought to 1..16, memory receives the value taken, and the arbiter decides
again (R42, R43, R45). A write of the quiet word sets the frames left, a value above 255 taken as 255, which memory
receives; the quiet interval ends when its last frame is counted, and a QUIET_INTERVAL_END that is not due, or that the
coming expiry has counted already, does nothing: taking its part of the coming expiry early, once, is the model's choice
(R149; notes/assumptions/1.md). -/
def Obligations.TimeLimitAndQuietWrites : Prop :=
  (∀ (l : Lanes) (s : State), s.bus.inReset = false →
    let v := l.merge s.cues.surface
    ∃ q : List Cue, q.Perm s.cues.cues ∧
      q.Pairwise (fun a b => leadOf a.due v < leadOf b.due v ∨
        (leadOf a.due v = leadOf b.due v ∧ a.capture ≤ b.capture)) ∧
      s.writes (.surfaceTimeSet l) 0x028 (Lanes.full v) { s with cues := { s.cues with surface := v, cues := q } }) ∧
  (∀ (l : Lanes) (s : State), s.bus.inReset = false →
    let k := fieldNat (l.merge (putNat 0 8 s.table.limit)) 0 8
    let n := if k = 0 then 1 else if 16 < k then 16 else k
    s.writes (.slotLimitWrite l) 0x008 (Lanes.full (putNat 0 32 n))
      (State.arbitrate { s with table := { s.table with limit := n } })) ∧
  (∀ (l : Lanes) (s : State), s.bus.inReset = false →
    (let k := fieldNat (l.merge (putNat 0 16 s.attn.quiet)) 0 16
     let n := if 255 < k then 255 else k
     s.writes (.quietWrite l) 0x07C (Lanes.full (putNat 0 32 n)) { s with attn := { s.attn with quiet := n } }) ∧
       (s.attn.quiet = 1 → s.early.quiet = false →
         s.answers .quietIntervalEnd
           { s with attn := { s.attn with quiet := 0 }, early := { s.early with quiet := true } }) ∧
       (s.attn.quiet ≠ 1 ∨ s.early.quiet = true → s.answers .quietIntervalEnd s))

/-- A write of a global setup word takes each field of the merged word, brought to the nearer end of its range, changes no
other setting, and memory receives the values taken (R10, R56, R60, R76, R96, R147, R149, R156, R161); a read returns the
values in force. The second attention level word reads 8 and 9 and keeps them (R147), and memory receives 0x98, which is
deduced (notes/assumptions/23.md). -/
def Obligations.GlobalSetupWritesClamp : Prop :=
  ∀ (l : Lanes) (s : State), s.bus.inReset = false →
    (let v := l.merge (putNat 0 8 s.setup.stallWindow ||| putNat 16 9 s.setup.stallTravel)
     let a := clampNat 2 250 (fieldNat v 0 8)
     let b := clampNat 0 400 (fieldNat v 16 9)
     s.writes (.setupWrite .stallSetup l) 0x00C (Lanes.full (putNat 0 8 a ||| putNat 16 9 b))
       { s with setup := { s.setup with stallWindow := a, stallTravel := b } }) ∧
      (let a := clampNat 10 60000 (fieldNat (l.merge (putNat 0 16 s.setup.moveLimit)) 0 16)
       s.writes (.setupWrite .moveLimit l) 0x010 (Lanes.full (putNat 0 16 a))
         { s with setup := { s.setup with moveLimit := a } }) ∧
      (let v := l.merge (putNat 0 16 s.setup.homeLimit ||| putNat 16 8 s.setup.stillFrames)
       let a := clampNat 50 60000 (fieldNat v 0 16)
       let b := clampNat 2 250 (fieldNat v 16 8)
       s.writes (.setupWrite .homingA l) 0x014 (Lanes.full (putNat 0 16 a ||| putNat 16 8 b))
         { s with setup := { s.setup with homeLimit := a, stillFrames := b } }) ∧
      (let v := l.merge (putNat 0 9 s.setup.stillTravel ||| putNat 16 12 s.setup.minSpan)
       let a := clampNat 1 400 (fieldNat v 0 9)
       let b := clampNat 16 4095 (fieldNat v 16 12)
       s.writes (.setupWrite .homingB l) 0x018 (Lanes.full (putNat 0 9 a ||| putNat 16 12 b))
         { s with setup := { s.setup with stillTravel := a, minSpan := b } }) ∧
      (let v := l.merge (putNat 0 14 s.setup.releaseGuard ||| putNat 16 11 s.setup.reportStep)
       let a := clampNat 0 10000 (fieldNat v 0 14)
       let b := clampNat 1 2000 (fieldNat v 16 11)
       s.writes (.setupWrite .touchSetup l) 0x01C (Lanes.full (putNat 0 14 a ||| putNat 16 11 b))
         { s with setup := { s.setup with releaseGuard := a, reportStep := b } }) ∧
      (let a := clampNat 0 50 (fieldNat (l.merge (putNat 0 8 s.law.cut)) 0 8)
       s.writes (.setupWrite .cutPosition l) 0x020 (Lanes.full (putNat 0 8 a))
         { s with law := { s.law with cut := a } }) ∧
      (let a := clampNat 0 60000 (fieldNat (l.merge (putNat 0 16 s.cues.lateLimit)) 0 16)
       s.writes (.setupWrite .lateLimit l) 0x024 (Lanes.full (putNat 0 16 a))
         { s with cues := { s.cues with lateLimit := a } }) ∧
      (∀ old v w : Word, (∀ i : Fin 8, fieldNat old (4 * i.val) 4 = s.attn.levels[i] % 16) → v = l.merge old →
        (∀ i : Fin 8, fieldNat w (4 * i.val) 4 = min 7 (fieldNat v (4 * i.val) 4)) →
        s.writes (.setupWrite .levelsFirst l) 0x070 (Lanes.full w)
          { s with attn := { s.attn with levels := Vector.ofFn fun i => min 7 (fieldNat v (4 * i.val) 4) } }) ∧
      s.writes (.setupWrite .levelsSecond l) 0x074 (Lanes.full 0x98) s ∧
      (let a := clampNat 0 7 (fieldNat (l.merge (putNat 0 4 s.attn.threshold)) 0 4)
       s.writes (.setupWrite .attentionControl l) 0x078 (Lanes.full (putNat 0 4 a))
         { s with attn := { s.attn with threshold := a } }) ∧
      s.reads (.setup .levelsSecond) [(0, 4, 8), (4, 4, 9)] ∧
      s.reads (.setup .stallSetup) [(0, 8, s.setup.stallWindow), (16, 9, s.setup.stallTravel)] ∧
      s.reads (.setup .moveLimit) [(0, 16, s.setup.moveLimit)] ∧
      s.reads (.setup .homingA) [(0, 16, s.setup.homeLimit), (16, 8, s.setup.stillFrames)] ∧
      s.reads (.setup .homingB) [(0, 9, s.setup.stillTravel), (16, 12, s.setup.minSpan)] ∧
      s.reads (.setup .touchSetup) [(0, 14, s.setup.releaseGuard), (16, 11, s.setup.reportStep)] ∧
      s.reads (.setup .cutPosition) [(0, 8, s.law.cut)] ∧ s.reads (.setup .lateLimit) [(0, 16, s.cues.lateLimit)] ∧
      s.reads (.setup .levelsFirst) ((List.finRange 8).map fun i => (4 * i.val, 4, s.attn.levels[i])) ∧
      s.reads (.setup .attentionControl) [(0, 4, s.attn.threshold)]

/-- A write of a fader's or a meter's setup word takes each field of the merged word, brought to the nearer end of its range,
a kind code that is neither taken as Peak, and memory receives the values taken; no other fader, meter or setting changes
(R56, R60, R124, R156, R161, R162). A read returns the values in force. That home drive and the drive limit are read unsigned
is the model's choice (notes/assumptions/29.md). -/
def Obligations.StripSetupWritesClamp : Prop :=
  ∀ (l : Lanes) (n : Fin 48) (s : State), s.bus.inReset = false →
    let x := s.fader n
    let y := s.meter n
    (let v := l.merge (putNat 0 8 x.setup.deadband ||| putNat 8 8 x.setup.settleFrames |||
       putNat 16 9 x.setup.slewLimit ||| putNat 25 7 x.setup.driveLimit)
     let a := clampNat 0 64 (fieldNat v 0 8)
     let b := clampNat 1 50 (fieldNat v 8 8)
     let c := clampNat 1 400 (fieldNat v 16 9)
     let d := clampNat 1 127 (fieldNat v 25 7)
     s.writes (.setupWrite (.faderA n) l) (0x1000 + 0x40 * n.val + 0x34)
       (Lanes.full (putNat 0 8 a ||| putNat 8 8 b ||| putNat 16 9 c ||| putNat 25 7 d))
       (s.setFader n { x with setup :=
         { x.setup with deadband := a, settleFrames := b, slewLimit := c, driveLimit := d } })) ∧
      (let v := l.merge (putNat 0 8 x.setup.servoGain ||| putNat 8 8 x.setup.homeDrive |||
         putNat 16 16 x.setup.holdFrames)
       let a := clampNat 1 64 (fieldNat v 0 8)
       let b := clampNat 10 127 (fieldNat v 8 8)
       let c := clampNat 0 10000 (fieldNat v 16 16)
       s.writes (.setupWrite (.faderB n) l) (0x1000 + 0x40 * n.val + 0x38)
         (Lanes.full (putNat 0 8 a ||| putNat 8 8 b ||| putNat 16 16 c))
         (s.setFader n { x with setup := { x.setup with servoGain := a, homeDrive := b, holdFrames := c } })) ∧
      (let v := l.merge (putNat 0 8 y.setup.kind.code ||| putNat 8 8 y.setup.attack ||| putNat 16 8 y.setup.overCount)
       let a : MeterKind := if fieldNat v 0 8 = 1 then .average else .peak
       let b := clampNat 1 16 (fieldNat v 8 8)
       let c := clampNat 1 8 (fieldNat v 16 8)
       s.writes (.setupWrite (.meterA n) l) (0x2000 + 0x20 * n.val + 0x04)
         (Lanes.full (putNat 0 8 (if a = .average then 1 else 0) ||| putNat 8 8 b ||| putNat 16 8 c))
         (s.setMeter n { y with setup := { y.setup with kind := a, attack := b, overCount := c } })) ∧
      (let v := l.merge (putNat 0 16 y.setup.decay ||| putNat 16 16 y.setup.holdFrames)
       let a := clampNat 0 2000 (fieldNat v 0 16)
       let b := clampNat 0 10000 (fieldNat v 16 16)
       s.writes (.setupWrite (.meterB n) l) (0x2000 + 0x20 * n.val + 0x08)
         (Lanes.full (putNat 0 16 a ||| putNat 16 16 b))
         (s.setMeter n { y with setup := { y.setup with decay := a, holdFrames := b } })) ∧
      (let v := l.merge (putInt 0 16 y.setup.overThreshold ||| putNat 16 16 y.setup.intakeTimeout)
       let a := clampInt (-6000) 2000 (fieldInt v 0)
       let b := clampNat 0 1000 (fieldNat v 16 16)
       s.writes (.setupWrite (.meterC n) l) (0x2000 + 0x20 * n.val + 0x0C)
         (Lanes.full (putInt 0 16 a ||| putNat 16 16 b))
         (s.setMeter n { y with setup := { y.setup with overThreshold := a, intakeTimeout := b } })) ∧
      s.reads (.setup (.faderA n)) [(0, 8, x.setup.deadband), (8, 8, x.setup.settleFrames), (16, 9, x.setup.slewLimit),
        (25, 7, x.setup.driveLimit)] ∧
      s.reads (.setup (.faderB n)) [(0, 8, x.setup.servoGain), (8, 8, x.setup.homeDrive), (16, 16, x.setup.holdFrames)] ∧
      s.reads (.setup (.meterA n)) [(0, 8, if y.setup.kind = .average then 1 else 0), (8, 8, y.setup.attack),
        (16, 8, y.setup.overCount)] ∧
      s.reads (.setup (.meterB n)) [(0, 16, y.setup.decay), (16, 16, y.setup.holdFrames)] ∧
      s.reads (.setup (.meterC n)) [(0, 16, twos 16 y.setup.overThreshold), (16, 16, y.setup.intakeTimeout)]

/-- A write of a staging word reaches memory on the lanes written, those lanes of the part's copy of the word take them, and
nothing else changes (R91, R104, R122, R155). -/
def Obligations.StagingWritesAreCopied : Prop :=
  ∀ (l : Lanes) (s : State), s.bus.inReset = false →
    let g := s.staging
    s.writes (.stagingWrite .cueTag l) 0x034 l { s with staging := { g with cueTag := l.merge g.cueTag } } ∧
      s.writes (.stagingWrite .cueDue l) 0x038 l { s with staging := { g with cueDue := l.merge g.cueDue } } ∧
      s.writes (.stagingWrite .cueGain l) 0x03C l { s with staging := { g with cueGain := l.merge g.cueGain } } ∧
      s.writes (.stagingWrite .cueGuard l) 0x040 l { s with staging := { g with cueGuard := l.merge g.cueGuard } } ∧
      s.writes (.stagingWrite .taperCount l) 0x200 l
        { s with staging := { g with taperCount := l.merge g.taperCount } } ∧
      (∀ k : Fin 16, s.writes (.stagingWrite (.taperPoint k) l) (0x204 + 4 * k.val) l
        { s with staging := { g with taperPoints := g.taperPoints.set k (l.merge g.taperPoints[k]) } }) ∧
      (∀ i : Fin 32, s.writes (.stagingWrite (.scaleThreshold i) l) (0x280 + 4 * i.val) l
        { s with staging := { g with scale := g.scale.set i (l.merge g.scale[i]) } }) ∧
      ∀ j : Fin 48, s.writes (.stagingWrite (.recallPair j) l) (0x400 + 4 * j.val) l
        { s with staging := { g with pairs := g.pairs.set j (l.merge g.pairs[j]) } }

/-! ### Run control, Home and Release -/

/-- Stop while Running makes the run state Stopped and ends the service of the faders in the slots, in slot order, and
then of those in the queue, in queue order, with outcome Stopped, leaving queue and slot table empty; while Stopped it
changes nothing (R37, R57). Resume makes the run state Running and changes nothing else: no fader moves (R38). That the code is
lane 0 of the run control word, whatever the upper lanes: the run control field is the model's choice
(notes/assumptions/28.md). -/
def Obligations.StopAndResume : Prop :=
  (∀ (u : UpperLanes) (s : State), s.bus.inReset = false →
    (s.queue.run = .stopped → s.writes (.stop u) 0x000 (u.withCode 1) s) ∧
      (s.queue.run = .running → s.owned →
        let t := (s.slotFaders ++ s.queue.entries.map Entry.fader).foldl (fun t f => t.serviceEnded f .stopped)
          { s with queue := { s.queue with run := .stopped } }
        s.writes (.stop u) 0x000 (u.withCode 1) t ∧ t.queue.entries = [] ∧ ∀ i, t.slot i = none)) ∧
  (∀ (u : UpperLanes) (s : State), s.bus.inReset = false →
    s.writes (.resume u) 0x000 (u.withCode 2) { s with queue := { s.queue with run := .running } })

/-- Restart, in either run state: every target is where its fader stands, pending targets and flags are cleared, faders in
the queue or a slot take their state from the calibration record, queue, slots, cue list, history, completions and pending
events are emptied, meters are at their Restart values, the attention line falls, and everything else is kept (R23, R39,
R57, R84, R86, R103, R113, R114, R129, R141, R146, R153). That the code is lane 0 of the run control word, whatever the upper
lanes: the run control field is the model's choice (notes/assumptions/28.md). -/
def Obligations.RestartClearsMotionAndAutomation : Prop :=
  ∀ (u : UpperLanes) (s : State), s.bus.inReset = false →
    ∃ t m, exec (.restart u) s = .next t ∧ storesAt s.mem m s.imageBase (u.withCode 3) ∧
      t = { s with
        mem := m
        bus := { s.bus with snapshot := none }
        faders := t.faders
        queue := { s.queue with run := .running, entries := [] }
        table := { s.table with slots := t.table.slots }
        cues := { s.cues with cues := [] }
        recalls := { s.recalls with history := [] }
        engine := { s.engine with meters := t.engine.meters }
        completions := []
        attn := { s.attn with
          quiet := 0, events := ⟨false, false, false, false, false, false, false, false⟩, line := false } } ∧
      (∀ i, t.slot i = none) ∧
      (∀ n, t.meter n = ⟨-6000, -6000, 0, -6000, 0, false, false, 0, (s.meter n).setup⟩) ∧
      ∀ f,
        let x := s.fader f
        let p := s.unparkedPerMille f
        t.fader f = { x with
          targetGain := gainOfPerMille s.law p, targetPos := p, pendingTarget := none, inhibit := false,
          offTarget := false, rangeClamped := false, roundedUp := false,
          motion := if x.motion.free then x.motion else x.cal.motion, touch := .untouched, perMille := p, touchRun := 0,
          releaseRun := 0, guardTimer := 0, lastReported := gainOfPerMille s.law p, moved := false }

/-- A Home command, by the cases of its rule in order: refused while Stopped, not taken for an Absent, held, inhibited,
supply-faulted or Homing fader, a Home entry for an Idle, Unhomed or Faulted one, the entry updated for a Waiting one, and
the slot taken over for a Moving one (Cancelled) or a Holding one (R27, R32, R33, R61). That a joining Home entry gives the
fader class Home and tag 0 at once, not at the grant, is deduced (notes/assumptions/16.md). -/
def Obligations.HomeCommandByCase : Prop :=
  ∀ (f : FaderId) (u : UpperLanes) (s : State), s.bus.inReset = false →
    let off := 0x1000 + 0x40 * f.val + 0x3C
    let l := u.withCode 1
    let x := s.fader f
    let h := { x with motion := .homing, cls := .home, tag := 0 }
    let down (sl : Slot) : Slot := ⟨sl.fader, .homing, .down, .home, 0, ⟨false, false⟩, 0, 0, x.raw, 0, 0, 0, 0, none, 0,
      0, 0, 0, 0, none, none, none, 0⟩
    (s.queue.run = .stopped →
        s.writes (.home f u) off l { s with attn := { s.attn with
          lastRefusal := .stopped, events := { s.attn.events with stagingRefused := true } } }) ∧
      (s.queue.run = .running →
        x.motion = .absent ∨ x.touch ≠ .untouched ∨ x.inhibit = true ∨ (s.bay (bayOf f)).supplyFault = true ∨
          x.motion = .homing →
        s.writes (.home f u) off l s) ∧
      (s.queue.run = .running → x.touch = .untouched → x.inhibit = false → (s.bay (bayOf f)).supplyFault = false →
        (x.motion = .idle ∨ x.motion = .unhomed ∨ x.motion = .faulted →
            s.writes (.home f u) off l
              (State.arbitrate
                { s.setFader f { x with motion := .waiting, cls := .home, tag := 0 } with
                  queue := { s.queue with
                    entries := insertEntry ⟨f, .home, .home, 0, 0, ⟨false, false⟩, s.queue.nextStamp⟩ s.queue.entries
                    nextStamp := s.queue.nextStamp + 1 } })) ∧
          (∀ e, x.motion = .waiting → s.entryFor f = some e →
            s.writes (.home f u) off l
              (State.arbitrate
                { s.setFader f { x with cls := e.cls, tag := 0 } with
                  queue := { s.queue with
                    entries := insertEntry ⟨f, .home, e.cls, 0, 0, ⟨false, false⟩, e.stamp⟩
                      (s.queue.entries.filter fun d => decide (d.fader ≠ f)) } })) ∧
          (∀ i sl, x.motion = .moving → s.slotFor f = some (i, sl) → sl.use = .moving →
            s.writes (.home f u) off l
              { (s.setFader f h).setSlot i (some (down sl)) with
                completions := writeRecord ⟨f, .cancelled, .none, sl.cls, sl.tag, sl.marks, false, x.perMille, false⟩
                  s.completions }) ∧
          ∀ i sl, x.motion = .holding → s.slotFor f = some (i, sl) → sl.use = .holding →
            s.writes (.home f u) off l ((s.setFader f h).setSlot i (some (down sl))))

/-- A Release command, by the fader's state: the pending target of a held fader is discarded, a Waiting or Moving fader's
service ends Cancelled, a hold ends without a completion, and any other fader is left alone (R28, R34, R47). -/
def Obligations.ReleaseCommandByCase : Prop :=
  ∀ (f : FaderId) (u : UpperLanes) (s : State), s.bus.inReset = false → s.owned →
    let off := 0x1000 + 0x40 * f.val + 0x3C
    let l := u.withCode 2
    let x := s.fader f
    (x.touch ≠ .untouched → s.writes (.release f u) off l (s.setFader f { x with pendingTarget := none })) ∧
      (x.touch = .untouched → x.motion = .waiting ∨ x.motion = .moving →
        s.writes (.release f u) off l ((s.serviceEnded f .cancelled).arbitrate)) ∧
      (x.touch = .untouched → x.motion = .holding →
        s.writes (.release f u) off l
          (State.arbitrate { s.serviceEnded f .cancelled with completions := s.completions })) ∧
      (x.touch = .untouched → x.motion.free = true ∨ x.motion = .homing → s.writes (.release f u) off l s)

/-! ### Cues, recalls and table commits -/

/-- The lead of a due time is the one number in -(2^31 - 1)..2^31 that equals due - now mod 2^32; a cue is due exactly when
its lead is 0 or below, and its lateness is then the negative of its lead (R88). -/
def Obligations.LeadAndLatenessOfCues : Prop :=
  ∀ due now : BitVec 32,
    -(2 ^ 31 - 1) ≤ leadOf due now ∧ leadOf due now ≤ 2 ^ 31 ∧
      (2 ^ 32 : Int) ∣ leadOf due now - ((due.toNat : Int) - now.toNat) ∧
      (isDue due now = true ↔ leadOf due now ≤ 0) ∧
      (isDue due now = true → (lateness due now : Int) = -leadOf due now ∧ lateness due now < 2 ^ 31)

/-- An arm checks the staged fader, ramp and guard mode and the room in the list, in this order, and refuses with the
first failing check's reason; otherwise it replaces the content of the cue for the same fader and due time in its
place, or adds a new cue with a new capture number behind every cue of a smaller lead and every older one of its own
(R90, R93, R94). A cancel removes from the list every cue of the written tag, or every cue for tag 0xFFFF, keeps the
order of the others, and does nothing else; the tag is lanes 2 and 3, unwritten lanes counting as 0 (R95, R157). -/
def Obligations.CueArmAndCancel : Prop :=
  (∀ (u : UpperLanes) (s : State), s.bus.inReset = false →
    let l := u.withCode 0x5A
    let g := s.staging
    let fader := fieldNat g.cueTag 16 8
    let ramp := fieldNat g.cueGain 16 16
    let mode := fieldNat g.cueGuard 8 8
    let refused (r : RefusalReason) : State := { s with attn := { s.attn with
      lastRefusal := r, events := { s.attn.events with stagingRefused := true } } }
    (48 ≤ fader → s.writes (.cueArm u) 0x044 l (refused .cueBadFader)) ∧
      (fader < 48 → 5000 < ramp → s.writes (.cueArm u) 0x044 l (refused .cueBadRamp)) ∧
      (fader < 48 → ramp ≤ 5000 → 3 < mode → s.writes (.cueArm u) 0x044 l (refused .cueBadGuard)) ∧
      ∀ (f : FaderId) (guard : GuardMode), f.val = fader → ramp ≤ 5000 →
        mode = (match guard with | .always => 0 | .noneTouched => 1 | .anyTouched => 2 | .allTouched => 3) →
        let gain := Gain.ofCode (fieldInt g.cueGain 0)
        let tag := g.cueTag.extractLsb' 0 16
        let group := g.cueGuard.extractLsb' 0 3
        ((∀ c ∈ s.cues.cues, ¬(c.fader = f ∧ c.due = g.cueDue)) → 256 ≤ s.cues.cues.length →
            s.writes (.cueArm u) 0x044 l (refused .cueListFull)) ∧
          ((∃ c ∈ s.cues.cues, c.fader = f ∧ c.due = g.cueDue) →
            s.writes (.cueArm u) 0x044 l { s with cues := { s.cues with cues := s.cues.cues.map fun c =>
              if c.fader = f ∧ c.due = g.cueDue then
                { c with gain := gain, ramp := ramp, tag := tag, group := group, guard := guard }
              else c } }) ∧
          ∀ before after : List Cue, s.cues.cues = before ++ after → s.cues.cues.length < 256 →
            (∀ c ∈ s.cues.cues, ¬(c.fader = f ∧ c.due = g.cueDue) ∧ c.capture < s.cues.nextCapture) →
            (∀ c ∈ before, leadOf c.due s.cues.surface ≤ leadOf g.cueDue s.cues.surface) →
            (∀ c ∈ after, leadOf g.cueDue s.cues.surface < leadOf c.due s.cues.surface) →
            s.writes (.cueArm u) 0x044 l { s with cues := { s.cues with
              cues := before ++ ⟨f, g.cueDue, gain, ramp, tag, group, guard, s.cues.nextCapture⟩ :: after
              nextCapture := s.cues.nextCapture + 1 } }) ∧
  (∀ (u : UpperLanes) (s : State), s.bus.inReset = false →
    let tag : Tag := BitVec.ofNat 16 ((u.lane2.getD 0).toNat + 256 * (u.lane3.getD 0).toNat)
    s.writes (.cueCancel u) 0x048 (u.withCode 0x3C) { s with cues := { s.cues with
      cues := s.cues.cues.filter fun c => decide (tag ≠ 0xFFFF ∧ c.tag ≠ tag) } })

/-- A commit checks run state, count, faders and duplicates, in this order, and refuses with the first failing check's
reason, changing nothing else; otherwise the recall number advances, the prior targets of the listed faders are pushed
on the history of at most four entries, and one Recall request is accepted for each pair in staging order (R105, R106,
R107, R108, R109). An undo with the history empty is refused with HistoryEmpty; otherwise the top entry is removed and
one Recall request with the undo mark, the entry's number and ramp is accepted for each of its prior targets in order,
in either run state; the recall number is unchanged (R111). -/
def Obligations.CommitAndUndo : Prop :=
  (∀ (u : UpperLanes) (s : State), s.bus.inReset = false →
    let l := u.withCode 0xC1
    let count := (u.lane1.getD 0).toNat
    let written := (u.lane2.getD 0).toNat + 256 * (u.lane3.getD 0).toNat
    let ramp := if 5000 < written then 5000 else written
    let staged := s.staging.pairs.toList.take count
    let numbers := staged.map fun v => fieldNat v 16 8
    let refused (r : RefusalReason) : State := { s with attn := { s.attn with
      lastRefusal := r, events := { s.attn.events with stagingRefused := true } } }
    (s.queue.run = .stopped → s.writes (.commit u) 0x04C l (refused .stopped)) ∧
      (s.queue.run = .running → count = 0 ∨ 48 < count → s.writes (.commit u) 0x04C l (refused .recallBadCount)) ∧
      (s.queue.run = .running → 1 ≤ count → count ≤ 48 →
        ((∃ n ∈ numbers, 48 ≤ n) → s.writes (.commit u) 0x04C l (refused .recallBadFader)) ∧
          ((∀ n ∈ numbers, n < 48) → ¬numbers.Nodup → s.writes (.commit u) 0x04C l (refused .recallDuplicate)) ∧
          ∀ listed : List PriorTarget, numbers.Nodup →
            listed.map (fun p => (p.fader.val, p.gain)) =
              staged.map (fun v => (fieldNat v 16 8, Gain.ofCode (fieldInt v 0))) →
            let number : BitVec 16 := if s.recalls.number = 0xFFFF then 1 else s.recalls.number + 1
            let entry : HistoryEntry := ⟨number, ramp, listed.map fun p => ⟨p.fader, (s.fader p.fader).targetGain⟩⟩
            s.writes (.commit u) 0x04C l
              (listed.foldl (fun t p => t.accept ⟨p.fader, p.gain, .recall, number, ramp, ⟨false, false⟩⟩)
                { s with recalls := ⟨number, (entry :: s.recalls.history).take 4⟩ }))) ∧
  (∀ (u : UpperLanes) (s : State), s.bus.inReset = false →
    (s.recalls.history = [] →
        s.writes (.undo u) 0x04C (u.withCode 0xD0) { s with attn := { s.attn with
          lastRefusal := .historyEmpty, events := { s.attn.events with stagingRefused := true } } }) ∧
      ∀ (e : HistoryEntry) (rest : List HistoryEntry), s.recalls.history = e :: rest →
        s.writes (.undo u) 0x04C (u.withCode 0xD0)
          (e.priors.foldl (fun t p => t.accept ⟨p.fader, p.gain, .recall, e.number, e.ramp, ⟨false, true⟩⟩)
            { s with recalls := { s.recalls with history := rest } }))

/-- A taper commit checks the staged count, the ends and the increase of the points, in this order, and refuses with
the first failing check's reason; otherwise the counted points become the taper table in force and no recorded target
or position changes (R20, R21). A scale commit takes the 32 staged thresholds when the first is at or above -6000, the
last at or below +2000 and each greater than the one before, and is otherwise refused with ScaleNotAscending; no meter
record changes (R123). -/
def Obligations.TableCommits : Prop :=
  (∀ (u : UpperLanes) (s : State), s.bus.inReset = false →
    let l := u.withCode 0x7E
    let n := fieldNat s.staging.taperCount 0 8
    let points : List TaperPoint := (s.staging.taperPoints.toList.take n).map fun v => ⟨fieldNat v 16 16, fieldInt v 0⟩
    let ends := ∃ p q, points.head? = some p ∧ points.getLast? = some q ∧ p.pos = 0 ∧ -12000 ≤ p.gain ∧ q.pos = 1000 ∧
      q.gain ≤ 2400
    let rising := points.Pairwise fun p q => p.pos < q.pos ∧ p.gain < q.gain
    let refused (r : RefusalReason) : State := { s with attn := { s.attn with
      lastRefusal := r, events := { s.attn.events with stagingRefused := true } } }
    (n < 2 ∨ 16 < n → s.writes (.taperCommit u) 0x058 l (refused .taperBadCount)) ∧
      (2 ≤ n → n ≤ 16 →
        (¬ends → s.writes (.taperCommit u) 0x058 l (refused .taperBadEnds)) ∧
          (ends → ¬rising → s.writes (.taperCommit u) 0x058 l (refused .taperNotIncreasing)) ∧
          (ends → rising →
            s.writes (.taperCommit u) 0x058 l { s with law := { s.law with taper := points } } ∧ taperOk points = true))) ∧
  (∀ (u : UpperLanes) (s : State), s.bus.inReset = false →
    let l := u.withCode 0x7F
    let t : Fin 32 → Int := fun i => fieldInt s.staging.scale[i] 0
    let good := -6000 ≤ t 0 ∧ t 31 ≤ 2000 ∧ ∀ i j : Fin 32, i < j → t i < t j
    (good → s.writes (.scaleCommit u) 0x05C l { s with engine := { s.engine with scale := List.ofFn t } }) ∧
      (¬good → s.writes (.scaleCommit u) 0x05C l { s with attn := { s.attn with
        lastRefusal := .scaleNotAscending, events := { s.attn.events with stagingRefused := true } } }))

/-- An acknowledge of 3..10 clears the pending flag of that event source alone, one of 1 or 2 has no effect, and one
above 10 is refused with UnknownCommand; the last refusal word is kept by an acknowledge of STAGING_REFUSED (R148). A
code that its command word does not list is refused with UnknownCommand, raising STAGING_REFUSED and changing nothing
else, whatever the word (R31, R36, R92, R95, R105, R123, R148, R152, R162). That the run control word's code is its lane 0,
whatever the upper lanes: the run control field is the model's choice (notes/assumptions/28.md). -/
def Obligations.AcknowledgeAndUnknownCodes : Prop :=
  (∀ (n : Byte) (u : UpperLanes) (s : State), s.bus.inReset = false →
    let l := u.withCode n
    let e := s.attn.events
    (n.toNat ≤ 10 → n ≠ 0 →
        ∃ e' : EventFlags, s.writes (.acknowledge n u) 0x080 l { s with attn := { s.attn with events := e' } } ∧
          e' = ⟨e.cueException && n != 3, e.stagingRefused && n != 4, e.faderFault && n != 5, e.meterOver && n != 6,
            e.meterStale && n != 7, e.bayJoined && n != 8, e.bayLost && n != 9, e.supplyFault && n != 10⟩) ∧
      (10 < n.toNat →
        s.writes (.acknowledge n u) 0x080 l { s with attn := { s.attn with
          lastRefusal := .unknownCommand, events := { e with stagingRefused := true } } })) ∧
  (∀ (cw : CommandWord) (code : Byte) (u : UpperLanes) (s : State), s.bus.inReset = false → cw.lists code = false →
    s.writes (.unknownCommand cw code u) (ImageWord.command cw).offset (u.withCode code) { s with attn := { s.attn with
      lastRefusal := .unknownCommand, events := { s.attn.events with stagingRefused := true } } })

/-! ### The reads that act -/

/-- A read of a present gain word returns the present gain and takes the snapshot of its fader's live words, which their
reads then return although the record changes, while other faders, and every fader without a snapshot, read live (R4, R22).
The live words hold the fields of section 12.2, with every other bit 0 (R2, R3, R8, R9, R58, R161). -/
def Obligations.PresentGainReadTakesSnapshot : Prop :=
  (∀ (f : FaderId) (s : State), s.bus.inReset = false →
    let live (u : State) (g : FaderId) (x : Fader) : Prop :=
      u.overlay (.presentPosition g) = some x.positionWord ∧ u.overlay (.faderState g) = some x.stateWord ∧
        u.overlay (.pendingA g) = some x.pendingWordA ∧ u.overlay (.pendingB g) = some x.pendingWordB ∧
        u.overlay (.targetPosition g) = some x.targetPositionWord ∧ u.overlay (.calibration g) = some x.cal.word ∧
        u.overlay (.faderTag g) = some x.tagWord
    ∃ t, exec (.presentGainRead f) s = .next t ∧
      t.bus.readData = Lanes.full (putInt 0 16 (gainOfPerMille s.law (s.fader f).perMille).code) ∧
      (∃ n, t = State.driveAttn { s with bus := { s.bus with readData := t.bus.readData, snapshot := some n } }) ∧
      (∀ u : State, u.bus.snapshot = t.bus.snapshot → live u f (s.fader f) ∧ ∀ g, g ≠ f → live u g (u.fader g)) ∧
      ∀ (u : State) (g : FaderId), u.bus.snapshot = none → live u g (u.fader g)) ∧
  (∀ x : Fader,
    holdsFields x.positionWord [(0, 12, x.raw), (16, 10, x.perMille), (31, 1, x.stale.toNat)] ∧
      holdsFields x.stateWord [(0, 4, x.motion.code), (4, 2, x.touch.code), (8, 1, x.inhibit.toNat),
        (9, 1, x.latched.toNat), (10, 1, x.offTarget.toNat), (11, 1, x.rangeClamped.toNat), (12, 1, x.roundedUp.toNat)] ∧
      (x.pendingTarget = none → x.pendingWordA = 0 ∧ x.pendingWordB = 0) ∧
      (∀ p, x.pendingTarget = some p →
        holdsFields x.pendingWordA [(0, 16, twos 16 p.gain.code), (16, 2, p.cls.code), (18, 1, p.marks.late.toNat),
            (19, 1, p.marks.undo.toNat), (31, 1, 1)] ∧
          holdsFields x.pendingWordB [(0, 16, p.tag.toNat), (16, 13, p.ramp)]) ∧
      holdsFields x.targetPositionWord [(0, 10, x.targetPos)] ∧
      holdsFields x.cal.word [(0, 12, x.cal.low), (12, 12, x.cal.high), (24, 1, x.cal.calibrated.toNat),
        (25, 1, x.cal.latched.toNat), (28, 3, x.cal.cause.code)] ∧
      holdsFields x.tagWord [(0, 16, x.tag.toNat), (16, 2, x.cls.code)]) ∧
  ([MotionState.absent, .unhomed, .idle, .waiting, .moving, .holding, .homing, .faulted].map MotionState.code =
      List.range 8 ∧
    [TouchState.untouched, .touched, .releasing].map TouchState.code = [0, 1, 2] ∧
    [FaultCause.none, .stall, .timedOut, .homeDown, .homeUp, .homeSpan].map FaultCause.code = List.range 6)

/-- A read of port word A returns the head's first half and opens it, or the not-valid word; a read of port word B
returns the second half, and removes the head, with taken set, exactly when it was opened (R144, R145). Every other bit of
the two words is 0 (R161). A completion for a fader with a record in the queue updates that record in its place, with the repeated mark set and the opened
mark clear; for another fader it joins behind every record (R143). -/
def Obligations.CompletionQueueAndPort : Prop :=
  (∀ s : State, s.bus.inReset = false →
    (s.completions = [] →
        s.answers .portARead { s with bus := { s.bus with readData := Lanes.full 0 } } ∧
          s.answers .portBRead { s with bus := { s.bus with readData := Lanes.full 0 } }) ∧
      ∀ (c : Completion) (rest : List Completion), s.completions = c :: rest →
        ∃ a b : Word,
          s.answers .portARead { s with
            completions := { c with opened := true } :: rest, bus := { s.bus with readData := Lanes.full a } } ∧
            holdsFields a [(0, 6, c.fader.val), (8, 4, c.outcome.code), (12, 2, c.cause.code), (14, 2, c.cls.code),
              (16, 1, c.repeated.toNat), (17, 1, c.marks.late.toNat), (18, 1, c.marks.undo.toNat), (31, 1, 1)] ∧
            [EndOutcome.arrived, .homed, .touchAbandoned, .stalled, .timedOut, .homeFailed, .stopped, .bayLost, .supplyFault,
              .inhibited, .cancelled, .skipped, .dropped].map EndOutcome.code = List.range' 1 13 ∧
            [SkipCause.none, .guard, .latched].map SkipCause.code = [0, 1, 2] ∧
            s.answers .portBRead { s with
              completions := if c.opened then rest else c :: rest, bus := { s.bus with readData := Lanes.full b } } ∧
            holdsFields b [(0, 16, c.tag.toNat), (16, 10, c.final), (31, 1, c.opened.toNat)]) ∧
  (∀ (c : Completion) (before after : List Completion) (old : Completion), (∀ d ∈ before, d.fader ≠ c.fader) →
    (old.fader = c.fader →
        writeRecord c (before ++ old :: after) = before ++ { c with repeated := true, opened := false } :: after) ∧
      writeRecord c before = before ++ [c])

/-- A read of a moved word returns one indication per fader of its range, removes the members of the range from the
moved set and sets their last reported gains to their present gains, leaving every other fader as it is (R83). On a good
frame taken by a Present bay, or as the eighth of a join, the last reported gain of a fitted fader follows its present gain
when it held a slot as the frame arrived, was Absent then, or is in a slot as the frame ends; otherwise the fader joins the
moved set when its gain differs from the last reported one by the report step or more, Off differing from every other gain,
and its last reported gain stays (R82). The test itself, of one fader, changes nothing else. -/
def Obligations.MovedSetAndItsWords : Prop :=
  let differs (step : Nat) (g last : Gain) : Prop := (g = .off ∧ last ≠ .off) ∨ (g ≠ .off ∧ last = .off) ∨
    ∃ a b, g = .cdb a ∧ last = .cdb b ∧ (step : Int) ≤ |a - b|
  (∀ (h : MovedHalf) (s : State), s.bus.inReset = false →
    let lo := match h with | .low => 0 | .high => 32
    let hi := match h with | .low => 32 | .high => 48
    ∃ (v : Word) (t : State),
      s.answers (.movedWordRead h) { s with faders := t.faders, bus := { s.bus with readData := Lanes.full v } } ∧
        (∀ i, i < 32 → (v.getLsbD i = true ↔ ∃ f : FaderId, f.val = lo + i ∧ f.val < hi ∧ (s.fader f).moved = true)) ∧
        ∀ f : FaderId, t.fader f =
          if lo ≤ f.val ∧ f.val < hi ∧ (s.fader f).moved = true then
            { s.fader f with moved := false, lastReported := gainOfPerMille s.law (s.fader f).perMille }
          else s.fader f) ∧
  (∀ (b : BayId) (bytes : List Byte) (s : State), s.bus.inReset = false → bytes.length = 20 → (s.bay b).window = .opened →
    bytes[0]? = some 0xE6 → bytes.tail.foldl (· + ·) 0 = (0 : Byte) → bytes[1]? = some (s.bay b).seq →
    (s.bay b).state = .present ∨ (s.bay b).state = .joining ∧ 7 ≤ (s.bay b).joinRun →
    ∃ t, exec (.senseFrame b bytes) s = .next t ∧
      ∀ p : Position, (bytes.getD (3 + 2 * p.val) 0).getLsbD 5 = true →
        let x := s.fader (faderAt b p)
        let y := t.fader (faderAt b p)
        let g := gainOfPerMille s.law y.perMille
        let follows := s.slotFor (faderAt b p) ≠ none ∨ x.motion = .absent ∨ t.slotFor (faderAt b p) ≠ none
        (follows → y.lastReported = g ∧ y.moved = x.moved) ∧
          (¬follows → y.lastReported = x.lastReported ∧
            (y.moved = true ↔ x.moved = true ∨ differs s.setup.reportStep g x.lastReported))) ∧
  (∀ (f : FaderId) (follows : Bool) (s : State),
    let x := s.fader f
    let g := gainOfPerMille s.law x.perMille
    (follows = true ∨ s.slotFor f ≠ none → s.movedTest f follows = s.setFader f { x with lastReported := g }) ∧
      (follows = false → s.slotFor f = none → differs s.setup.reportStep g x.lastReported →
        s.movedTest f follows = s.setFader f { x with moved := true }) ∧
      (follows = false → s.slotFor f = none → ¬differs s.setup.reportStep g x.lastReported → s.movedTest f follows = s))

/-! ### The frame expiry and the events that fall due at one -/

/-- A frame expiry, in the order that is the model's choice (notes/assumptions/1.md): it counts every slot, guard timer and
the quiet interval once; closes every window, an unanswered one as a missed frame; ends the slots and then the guards whose
counts are reached; advances surface time and, in Running, takes from the list and judges the cues that are due; takes the
meters; and sends on every link a drive frame with the next sequence number that shows the slots, each drive clamped to its
fader's drive limit, and meters as they then stand, opening every sense window (R51, R54, R55, R65, R68, R75, R87, R97, R98, R130, R131, R132). What event rows took of it
early is not taken again, and nothing stays taken of the next. The first frame sent for a grant or a Home
takeover carries drive 0 (R44, R61), even where a good frame came between, which is deduced (notes/assumptions/26.md); so is the
final position of a Park that times out, the per-mille before its return to the record (notes/assumptions/13.md). It leaves no slot, guard or cue overdue, and memory, staging,
gain law, setup, recall unit and run state as they are. When nothing ends at it, slots, faders, queue and completions change
by the counts alone. -/
def Obligations.FrameExpiryTakesEveryBlock : Prop :=
  ∀ s : State, s.bus.inReset = false → ∃ t, exec .frameExpiry s = .next t ∧
    t.bus = s.bus ∧ t.mem = s.mem ∧ t.staging = s.staging ∧ t.law = s.law ∧ t.setup = s.setup ∧ t.recalls = s.recalls ∧
      t.queue.run = s.queue.run ∧ t.table.limit = s.table.limit ∧ t.cues.lateLimit = s.cues.lateLimit ∧
      t.engine.scale = s.engine.scale ∧ t.attn.levels = s.attn.levels ∧ t.attn.threshold = s.attn.threshold ∧
      t.attn.lastRefusal = s.attn.lastRefusal ∧ t.early = EarlyShare.none ∧
      t.attn.quiet = (if s.early.quiet then s.attn.quiet else s.attn.quiet - 1) ∧
      t.cues.surface = (if s.early.advance = .coming then s.cues.surface + 1 else s.cues.surface) ∧
      (∀ c ∈ t.cues.cues, c ∈ s.cues.cues) ∧
      (s.queue.run = .stopped → t.cues.cues.Perm s.cues.cues) ∧
      (s.queue.run = .running → s.early.advance ≠ .taken → ∀ c ∈ t.cues.cues, isDue c.due t.cues.surface = false) ∧
      (∀ i sl, t.slot i = some sl →
        match sl.use with
        | .moving => sl.age ≤ s.setup.moveLimit
        | .holding => 0 < sl.holdTimer
        | .homing => if sl.phase = .park then sl.age ≤ s.setup.moveLimit else sl.phaseAge ≤ s.setup.homeLimit) ∧
      (∀ f, (t.fader f).touch = .releasing → 0 < (t.fader f).guardTimer) ∧
      (s.owned →
        let s2 := (List.finRange 6).foldl State.windowClosed s.counted
        let s3 := (List.finRange 16).foldl State.slotEnded s2
        let s4 := (List.finRange 48).foldl State.releasingEnded s3
        let s5 := s4.advanced
        let sent := s5.table.slots.map fun o => o.map fun sl => { sl with framesSent := sl.framesSent + 1 }
        t = State.driveAttn { s5 with
            table := { s5.table with slots := sent }, engine := t.engine, bays := t.bays, early := t.early
            attn := { s5.attn with events := { s5.attn.events with meterStale := t.attn.events.meterStale } } } ∧
          ∀ b, t.bay b = { s5.bay b with seq := (s.bay b).seq + 1, window := .opened, sent := (t.bay b).sent }) ∧
      (s.early = EarlyShare.none → (∀ b, (s.bay b).window ≠ .opened) →
        (∀ i sl, s.slot i = some sl →
          match sl.use with
          | .moving => sl.age + 1 ≤ s.setup.moveLimit
          | .holding => 1 < sl.holdTimer
          | .homing =>
            if sl.phase = .park then sl.age + 1 ≤ s.setup.moveLimit else sl.phaseAge + 1 ≤ s.setup.homeLimit) →
        (∀ f, (s.fader f).touch = .releasing → 1 < (s.fader f).guardTimer) →
        (∀ c ∈ s.cues.cues, isDue c.due (s.cues.surface + 1) = false) →
        (∀ i, t.slot i = (s.slot i).map fun sl =>
          let sl := { sl with framesSent := sl.framesSent + 1 }
          match sl.use with
          | .moving => { sl with age := sl.age + 1 }
          | .holding => { sl with holdTimer := sl.holdTimer - 1 }
          | .homing => if sl.phase = .park then { sl with age := sl.age + 1 } else { sl with phaseAge := sl.phaseAge + 1 }) ∧
        (∀ f, t.fader f = { s.fader f with guardTimer :=
          if (s.fader f).touch = .releasing then (s.fader f).guardTimer - 1 else (s.fader f).guardTimer }) ∧
        t.queue = s.queue ∧ t.completions = s.completions) ∧
      ∀ b : BayId, (t.bay b).seq = (s.bay b).seq + 1 ∧ (t.bay b).window = .opened ∧
        (t.bay b).fitted = (s.bay b).fitted ∧ (t.bay b).supplyGood = (s.bay b).supplyGood ∧
        ((s.bay b).window ≠ .opened → (t.bay b).state = (s.bay b).state ∧ (t.bay b).missRun = (s.bay b).missRun ∧
          (t.bay b).joinRun = (s.bay b).joinRun) ∧
        ∃ fr, (t.bay b).sent = some fr ∧ fr.seq = (s.bay b).seq + 1 ∧
          ∀ p : Position,
            let f := faderAt b p
            (t.slotFor f = none → fr.faders[p] = ⟨false, 0⟩) ∧
              (∀ i sl, t.slotFor f = some (i, sl) →
                let limit : Int := (t.fader f).setup.driveLimit
                fr.faders[p] = ⟨true, if sl.framesSent = 1 then 0 else clampInt (-limit) limit sl.drive⟩ ∧
                  -limit ≤ fr.faders[p].drive ∧ fr.faders[p].drive ≤ limit ∧ 1 ≤ sl.framesSent ∧
                  (sl.framesSent ≠ 1 → -limit ≤ sl.drive → sl.drive ≤ limit → fr.faders[p].drive = sl.drive)) ∧
              ((t.bay b).state ≠ .present → fr.meters[p] = ⟨0, 0, false⟩) ∧
              ((t.bay b).state = .present →
                let y := t.meter f
                fr.meters[p] =
                  ⟨if y.stale then 0 else (s.engine.scale.filter fun z => decide (z ≤ y.level)).length,
                    if y.stale then 0 else (s.engine.scale.filter fun z => decide (z ≤ y.hold)).length, y.overLatch⟩)

/-- At a frame expiry every meter decays, its hold timer or hold falls, its intake timer counts, and one whose timer
reaches the timeout turns stale with METER_STALE raised (R119); INTAKE_TIMEOUT takes that share of one meter early when it is
due, and the expiry then does not take that meter again, which is the model's choice (notes/assumptions/1.md). A read of a second readout word returns the lit
segments, the hold segment, the over latch and the stale flag, every other bit 0, and clears the over latch; the segments
count the thresholds at or below the levels, 0 for a stale meter (R121, R126, R161). That the expiry that brings the hold timer to
0 leaves the hold as it is, and that with an intake timeout of 1 an expiry turns a meter stale right after an intake, by R119 and
not by R128, are the model's choices (notes/assumptions/31.md and 32.md). -/
def Obligations.MetersAtExpiryAndReadout : Prop :=
  (∀ s : State, s.bus.inReset = false →
    let timed (y : Meter) : Bool := !y.stale && decide (0 < y.setup.intakeTimeout)
    let stales (y : Meter) : Bool := timed y && decide (y.setup.intakeTimeout ≤ y.intakeTimer + 1)
    let after (y : Meter) : Meter :=
      let level := if y.setup.kind = .peak then (if y.level - y.setup.decay < -6000 then -6000
        else y.level - y.setup.decay) else y.level
      let hold := if 0 < y.holdTimer then y.hold
        else if y.hold - y.setup.decay < level then level else y.hold - y.setup.decay
      if stales y then
        { y with level := -6000, hold := -6000, holdTimer := 0, overRun := 0, stale := true,
                 intakeTimer := y.intakeTimer + 1 }
      else { y with level := level, hold := hold, holdTimer := y.holdTimer - 1,
                    intakeTimer := if timed y then y.intakeTimer + 1 else y.intakeTimer }
    (∃ t, exec .frameExpiry s = .next t ∧
        (∀ m : MeterId, t.meter m = if s.early.meters[m] then s.meter m else after (s.meter m)) ∧
        (t.attn.events.meterStale = true ↔
          s.attn.events.meterStale = true ∨ ∃ m : MeterId, s.early.meters[m] = false ∧ stales (s.meter m) = true)) ∧
      ∀ m : MeterId,
        (s.early.meters[m] = false → stales (s.meter m) = true →
            s.answers (.intakeTimeout m) { s.setMeter m (after (s.meter m)) with
              attn := { s.attn with events := { s.attn.events with meterStale := true } }
              early := { s.early with meters := s.early.meters.set m true } }) ∧
          (s.early.meters[m] = true ∨ stales (s.meter m) = false → s.answers (.intakeTimeout m) s)) ∧
  (∀ (m : MeterId) (s : State), s.bus.inReset = false → s.engine.scale.length = 32 →
    let y := s.meter m
    ∃ v : Word,
      s.answers (.readout2Read m)
          { s.setMeter m { y with overLatch := false } with bus := { s.bus with readData := Lanes.full v } } ∧
        holdsFields v
          [(0, 6, if y.stale then 0 else (s.engine.scale.filter fun t => decide (t ≤ y.level)).length),
            (8, 6, if y.stale then 0 else (s.engine.scale.filter fun t => decide (t ≤ y.hold)).length),
            (16, 1, y.overLatch.toNat), (17, 1, y.stale.toNat)])

/-- A move whose age passes the move limit at the coming expiry ends TimedOut: slot freed, fader Idle and off-target,
fault cause TimedOut without the latch, FADER_FAULT raised; otherwise MOVE_TIMEOUT does nothing (R47, R54, R59; taken
early: notes/assumptions/1.md). A Park whose age passes the move limit at the coming expiry ends TimedOut with class
Home and tag 0: the found pair is discarded, the per-mille returns to the record, the fault latch is left as it
stands, and the fader takes its state from the record; the final position is the per-mille before that return, which
is deduced (R68, R70, R142; taken early: notes/assumptions/1.md). A hold whose timer reaches 0 at the coming expiry
ends without a completion, its fader Idle with off-target clear; otherwise HOLD_EXPIRY does nothing (R47, R55; taken
early: notes/assumptions/1.md). A homing in Down or Up whose phase age passes the home limit at the coming expiry
fails: HomeFailed with class Home and tag 0, slot freed, latch set with cause HomeDown or HomeUp, fader Faulted and
off-target, FADER_FAULT raised (R59, R65, R66; taken early: notes/assumptions/1.md). A slot that has counted the coming expiry does not
count it again. -/
def Obligations.SlotTimersEndTheirUses : Prop :=
  (∀ (i : SlotId) (s : State), s.bus.inReset = false →
    let u := { s with early := { s.early with slots := s.early.slots.set i true } }
    (s.early.slots[i] = false → ∀ sl, s.slot i = some sl → sl.use = .moving → s.setup.moveLimit < sl.age + 1 →
        let x := s.fader sl.fader
        s.answers (.moveTimeout i)
          (State.arbitrate
            { (u.setSlot i none).setFader sl.fader
                { x with motion := .idle, offTarget := true, cal := { x.cal with cause := .timedOut } } with
              completions :=
                writeRecord ⟨sl.fader, .timedOut, .none, sl.cls, sl.tag, sl.marks, false, x.perMille, false⟩
                  s.completions
              attn := { s.attn with events := { s.attn.events with faderFault := true } } })) ∧
      (s.early.slots[i] = true ∨ (∀ sl, s.slot i = some sl → sl.use = .moving → sl.age + 1 ≤ s.setup.moveLimit) →
        s.answers (.moveTimeout i) s)) ∧
  (∀ (i : SlotId) (s : State), s.bus.inReset = false → s.owned →
    let u := { s with early := { s.early with slots := s.early.slots.set i true } }
    (s.early.slots[i] = false → ∀ sl, s.slot i = some sl → sl.use = .homing → sl.phase = .park → s.setup.moveLimit < sl.age + 1 →
        let x := s.fader sl.fader
        s.answers (.parkTimeout i)
          (State.arbitrate
            { (u.setSlot i none).setFader sl.fader
                { x with motion := if x.cal.latched then .faulted else if x.cal.calibrated then .idle else .unhomed,
                         offTarget := true, perMille := perMilleOfRaw x.cal.low x.cal.high x.raw,
                         cal := { x.cal with cause := .timedOut } } with
              completions :=
                writeRecord ⟨sl.fader, .timedOut, .none, .home, 0, sl.marks, false, x.perMille, false⟩ s.completions
              attn := { s.attn with events := { s.attn.events with faderFault := true } } })) ∧
      (s.early.slots[i] = true ∨ (∀ sl, s.slot i = some sl → sl.use = .homing → sl.phase = .park → sl.age + 1 ≤ s.setup.moveLimit) →
        s.answers (.parkTimeout i) s)) ∧
  (∀ (i : SlotId) (s : State), s.bus.inReset = false →
    let u := { s with early := { s.early with slots := s.early.slots.set i true } }
    (s.early.slots[i] = false → ∀ sl, s.slot i = some sl → sl.use = .holding → sl.holdTimer ≤ 1 →
        s.answers (.holdExpiry i)
          (((u.setSlot i none).setFader sl.fader
            { s.fader sl.fader with motion := .idle, offTarget := false }).arbitrate)) ∧
      (s.early.slots[i] = true ∨ (∀ sl, s.slot i = some sl → sl.use = .holding → 1 < sl.holdTimer) →
        s.answers (.holdExpiry i) s)) ∧
  (∀ (i : SlotId) (s : State), s.bus.inReset = false →
    let u := { s with early := { s.early with slots := s.early.slots.set i true } }
    (s.early.slots[i] = false → ∀ sl, s.slot i = some sl → sl.use = .homing → sl.phase ≠ .park → s.setup.homeLimit < sl.phaseAge + 1 →
        let x := s.fader sl.fader
        let cause : FaultCause := if sl.phase = .down then .homeDown else .homeUp
        s.answers (.homeLimitExceeded i)
          (State.arbitrate
            { (u.setSlot i none).setFader sl.fader
                { x with motion := .faulted, offTarget := true, cal := { x.cal with latched := true, cause := cause } } with
              completions :=
                writeRecord ⟨sl.fader, .homeFailed, .none, .home, 0, sl.marks, false, x.perMille, false⟩ s.completions
              attn := { s.attn with events := { s.attn.events with faderFault := true } } })) ∧
      (s.early.slots[i] = true ∨ (∀ sl, s.slot i = some sl → sl.use = .homing → sl.phase ≠ .park → sl.phaseAge + 1 ≤ s.setup.homeLimit) →
        s.answers (.homeLimitExceeded i) s))

/-- Releasing ends when the guard timer reaches 0: the fader is Untouched with no pending target, which in Follow mode is
reissued as recorded, and otherwise its target is where it stands; otherwise RELEASING_END does nothing (R75, R80; taken
early: notes/assumptions/1.md). -/
def Obligations.ReleasingEndSettlesTarget : Prop :=
  ∀ (f : FaderId) (s : State), s.bus.inReset = false →
    let x := s.fader f
    let y := { x with touch := .untouched, touchRun := 0, guardTimer := 0, pendingTarget := none }
    let g := gainOfPerMille s.law x.perMille
    (x.touch = .releasing → x.guardTimer ≤ 1 →
        (∀ p, x.mode = .follow → x.pendingTarget = some p →
            s.answers (.releasingEnd f) ((s.setFader f y).accept ⟨f, p.gain, p.cls, p.tag, p.ramp, p.marks⟩)) ∧
          (x.mode ≠ .follow ∨ x.pendingTarget = none →
            s.answers (.releasingEnd f)
              (s.setFader f { y with targetGain := g, targetPos := x.perMille, offTarget := false }))) ∧
      (x.touch ≠ .releasing ∨ 1 < x.guardTimer → s.answers (.releasingEnd f) s)

/-- CUE_FIRING takes the advance of the coming expiry when cues are due at it in Running: surface time goes on by 1, and every due
cue leaves the list and is judged, in list order, each whole before the next, so that none is left due (R87, R97). Where another
CUE_FIRING follows behind nothing but sense frames, it judges the first alone and that one goes on with the rest, so that a sense
frame can be taken between two cues of one advance (R99), and no step lets anything else come between them. A cue is Dropped
above the late limit, Skipped (latched) for a latched fader, Skipped (guard) for a false guard, and else issued as a Cue request
with the late mark from a lateness of 1, CUE_EXCEPTION being raised in all but the last case on time: said in full where one cue
is judged (R98, R99, R100). With none to judge, or with the advance whole already, it does nothing but, at most, end the advance.
Taking the advance early, and leaving its cues to a CUE_FIRING that waits, are the model's choices (notes/assumptions/1.md). -/
def Obligations.CueFiringJudgesHead : Prop :=
  (∀ s : State, s.bus.inReset = false →
    let u := s.surfaceReached
    let now := u.cues.surface
    let due := u.judgedAt
    let follows : Prop :=
      ∃ frames rest, s.pending = frames ++ .cueFiring :: rest ∧ ∀ c ∈ frames, ∃ b bytes, c = .senseFrame b bytes
    let stage (v : State) (a : AdvanceStage) : State := { v with early := { s.early with advance := a } }
    (s.early.advance ≠ .taken → due ≠ [] → ¬follows →
      s.answers .cueFiring (stage (u.cuesJudged due) .taken) ∧ (u.cuesJudged due).cues.surface = now ∧
        (u.cuesJudged due).cues.cues = u.cues.cues.filter fun d => !isDue d.due now) ∧
    (∀ (c : Cue) (others before after : List Cue), s.early.advance ≠ .taken → due = c :: others → follows ∨ others = [] →
      u.cues.cues = before ++ c :: after → c ∉ before →
      let late := lateness c.due now
      let x := s.fader c.fader
      let inGroup (f : FaderId) : Prop := (s.fader f).groups.getLsbD c.group.toNat = true
      let held (f : FaderId) : Prop := (s.fader f).touch ≠ .untouched
      let guarded : Prop := match c.guard with
        | .always => True
        | .noneTouched => ∀ f, inGroup f → ¬held f
        | .anyTouched => ∃ f, inGroup f ∧ held f
        | .allTouched => (∃ f, inGroup f) ∧ ∀ f, inGroup f → held f
      let t := stage { u with cues := { u.cues with cues := before ++ after } } (if others = [] then .taken else .firing)
      let excepted (v : State) : State :=
        { v with attn := { v.attn with events := { v.attn.events with cueException := true } } }
      let ended (o : EndOutcome) (cause : SkipCause) (mark : Bool) : State :=
        excepted { t with
          completions :=
            writeRecord ⟨c.fader, o, cause, .cue, c.tag, ⟨mark, false⟩, false, x.perMille, false⟩ s.completions }
      (s.cues.lateLimit < late → s.answers .cueFiring (ended .dropped .none true)) ∧
        (late ≤ s.cues.lateLimit → x.latched = true →
          s.answers .cueFiring (ended .skipped .latched (decide (1 ≤ late)))) ∧
        (late ≤ s.cues.lateLimit → x.latched = false → ¬guarded →
          s.answers .cueFiring (ended .skipped .guard (decide (1 ≤ late)))) ∧
        (late ≤ s.cues.lateLimit → x.latched = false → guarded → late = 0 →
          s.answers .cueFiring (t.accept ⟨c.fader, c.gain, .cue, c.tag, c.ramp, ⟨false, false⟩⟩)) ∧
        (late ≤ s.cues.lateLimit → x.latched = false → guarded → 1 ≤ late →
          s.answers .cueFiring ((excepted t).accept ⟨c.fader, c.gain, .cue, c.tag, c.ramp, ⟨true, false⟩⟩))) ∧
    (s.early.advance = .taken ∨ (s.early.advance = .coming ∧ due = []) → s.answers .cueFiring s) ∧
    (s.early.advance = .firing → due = [] → s.answers .cueFiring (stage s .taken))) ∧
  (∀ s t : State, s.advanceWhole → step s = .next t → t.advanceWhole)

/-! ### The bay links -/

/-- A window that closes unanswered is a missed frame: the drives of the bay's slots become 0, a Joining bay returns to its
origin, a Present bay counts the miss and at the third enters Lost, its fitted faders ending BayLost in position order and
becoming Absent; without an open window MISSED_FRAME does nothing (R51, R71, R131, R132, R133, R136; taken early:
notes/assumptions/1.md). -/
def Obligations.MissedFrameByBayState : Prop :=
  ∀ (b : BayId) (s : State), s.bus.inReset = false →
    let x := s.bay b
    let zeroed (y : Bay) : State := { s.setBay b y with
      table := { s.table with
        slots := s.table.slots.map fun o => o.map fun sl =>
          if bayOf sl.fader = b then { sl with drive := 0 } else sl } }
    (x.window ≠ .opened → s.answers (.missedFrame b) s) ∧
      (x.window = .opened →
        (x.state = .absent ∨ x.state = .lost → s.answers (.missedFrame b) (zeroed { x with window := .closed })) ∧
          (x.state = .joining →
            s.answers (.missedFrame b) (zeroed { x with
              window := .closed, joinRun := 0, state := if x.origin = .absent then .absent else .lost })) ∧
          (x.state = .present → x.missRun < 2 →
            s.answers (.missedFrame b) (zeroed { x with window := .closed, missRun := x.missRun + 1 })) ∧
          (x.state = .present → 2 ≤ x.missRun → s.owned →
            let lost := (s.fittedFaders b).foldl
              (fun t f => (t.serviceEnded f .bayLost).modFader f fun y =>
                { y with motion := .absent, stale := true, touch := .untouched, touchRun := 0, releaseRun := 0,
                         guardTimer := 0, pendingTarget := none })
              (zeroed { x with window := .closed, state := .lost, missRun := 0, supplyFault := false })
            s.answers (.missedFrame b)
              (State.arbitrate
                { lost with attn := { lost.attn with events := { lost.attn.events with bayLost := true } } })))

/-- A frame is taken only while the bay's window is open and when it has the sense start byte, a sum of 0 after it and the
echo of the open window; any other is discarded without effect. Of a bay that is not Present it is only counted, marking the
window answered: a first one makes the bay Joining with run 1, and a Joining bay with a run below 7 counts on (R131,
R133). -/
def Obligations.SenseFramesBeforePresent : Prop :=
  ∀ (b : BayId) (bytes : List Byte) (s : State), s.bus.inReset = false → bytes.length = 20 →
    let x := s.bay b
    let good := bytes[0]? = some 0xE6 ∧ bytes.tail.foldl (· + ·) 0 = (0 : Byte) ∧ bytes[1]? = some x.seq
    (x.window ≠ .opened ∨ ¬good → s.answers (.senseFrame b bytes) s) ∧
      (x.window = .opened → good →
        (x.state = .absent → s.answers (.senseFrame b bytes)
            (s.setBay b { x with window := .answered, state := .joining, origin := .absent, joinRun := 1 })) ∧
          (x.state = .lost → s.answers (.senseFrame b bytes)
            (s.setBay b { x with window := .answered, state := .joining, origin := .lost, joinRun := 1 })) ∧
          (x.state = .joining → x.joinRun < 7 → s.answers (.senseFrame b bytes)
            (s.setBay b { x with window := .answered, joinRun := x.joinRun + 1 })))

/-- A good frame taken by a Present bay, or as the eighth good frame of a join: the fitted mask and the last supply report are
the frame's, a report that is not good sets the supply fault condition and a good one clears it, SUPPLY_FAULT is raised when
the condition is newly set and BAY_JOINED at the join, each fitted fader takes its raw position with stale clear and its
per-mille under the calibration in force, a fader whose bit went clear ends BayLost and is Absent with its position held, and
a fader of another bay changes only by a grant or a pre-emption (R3, R130, R133, R134, R135, R136, R137, R138, R139). The whole
frame is the six steps in turn: fitted bits, supply, positions, touch, the servo and homing for the faders that held a slot as
the frame arrived, and the moved-set test (R49, R72, R82, R134). That the faders of the bay are taken in position order within
a step is the model's choice (notes/assumptions/27.md), and where the arbiter decides within the frame is deduced
(notes/assumptions/14.md). -/
def Obligations.SenseFrameUpdatesBay : Prop :=
  ∀ (b : BayId) (bytes : List Byte) (s : State), s.bus.inReset = false → bytes.length = 20 → s.owned → s.absentOk → s.heldFree →
    let x := s.bay b
    let joins := x.state = .joining ∧ 7 ≤ x.joinRun
    let supply := (bytes.getD 18 0).getLsbD 0
    let fits (p : Position) : Bool := (bytes.getD (3 + 2 * p.val) 0).getLsbD 5
    let raw (p : Position) : Nat := (bytes.getD (2 + 2 * p.val) 0).toNat +
      256 * ((bytes.getD (3 + 2 * p.val) 0).toNat % 16)
    let fault := x.state = .present ∧ x.supplyFault = true
    let shown := (List.finRange 8).filter fits
    let was (p : Position) : Bool := decide (x.state = .present) && x.fitted.getLsbD p.val
    x.window = .opened → bytes[0]? = some 0xE6 → bytes.tail.foldl (· + ·) 0 = (0 : Byte) → bytes[1]? = some x.seq →
      x.state = .present ∨ joins →
        ∃ t, exec (.senseFrame b bytes) s = .next t ∧
          t.bus = s.bus ∧ t.mem = s.mem ∧ t.staging = s.staging ∧ t.law = s.law ∧ t.setup = s.setup ∧ t.cues = s.cues ∧
          t.recalls = s.recalls ∧ t.engine = s.engine ∧ t.queue.run = s.queue.run ∧ t.table.limit = s.table.limit ∧
          (t.bay b).state = .present ∧ (t.bay b).window = .answered ∧ (t.bay b).joinRun = (if joins then 0 else x.joinRun) ∧
          (t.bay b).missRun = 0 ∧ (∀ p : Position, (t.bay b).fitted.getLsbD p.val = fits p) ∧
          (t.bay b).supplyGood = supply ∧ (t.bay b).supplyFault = !supply ∧ (∀ c, c ≠ b → t.bay c = s.bay c) ∧
          (t.attn.events.supplyFault = true ↔ s.attn.events.supplyFault = true ∨ (supply = false ∧ ¬fault)) ∧
          (t.attn.events.bayJoined = true ↔ s.attn.events.bayJoined = true ∨ joins) ∧
          (∀ p : Position,
            let f := faderAt b p
            (fits p = true → (t.fader f).motion ≠ .absent ∧ (t.fader f).stale = false ∧ (t.fader f).raw = raw p ∧
                (t.fader f).perMille = perMilleOfRaw (t.calInForce f).1 (t.calInForce f).2 (raw p) ∧
                (supply = false → (t.fader f).motion.free = true)) ∧
              (fits p = false → (t.fader f).motion = .absent ∧ (t.fader f).raw = (s.fader f).raw ∧
                (t.fader f).stale = true ∧ (t.fader f).touch = .untouched ∧ t.slotFor f = none)) ∧
          (∀ p : Position, was p = true → fits p = false →
            let f := faderAt b p
            let y := s.fader f
            t.fader f = { y.afterEnd (s.unparkedPerMille f) with
                motion := .absent, stale := true, touch := .untouched, touchRun := 0, releaseRun := 0, guardTimer := 0,
                pendingTarget := none } ∧
              (∀ r, s.serviceRecord f .bayLost = some r →
                { r with repeated := s.completions.any fun d => decide (d.fader = f) } ∈ t.completions) ∧
              (s.serviceRecord f .bayLost = none → ∀ r ∈ t.completions, r.fader = f → r ∈ s.completions)) ∧
          (∀ f : FaderId, bayOf f ≠ b →
            let y := s.fader f
            t.fader f = y ∨ (y.motion = .waiting ∧ t.fader f = { y with motion := .moving }) ∨
              (y.motion = .waiting ∧ t.fader f = { y with motion := .homing, cls := .home, tag := 0 }) ∨
              (y.motion = .holding ∧ t.fader f = { y with motion := .idle, offTarget := false })) ∧
          let s0 := { s.setBay b { x with
              window := .answered, state := .present, joinRun := if joins then 0 else x.joinRun, missRun := 0
              supplyFault := if joins then false else x.supplyFault, fitted := (t.bay b).fitted } with
            attn := { s.attn with events := { s.attn.events with
              bayJoined := s.attn.events.bayJoined || decide joins } } }
          let s1 := State.arbitrate
            ((List.finRange 8).foldl (fun u p => u.fittedChanged (faderAt b p) (was p) (fits p)) s0)
          let s2 := s1.takeSupply b bytes
          let s3 := shown.foldl (fun u p => u.positionTaken (faderAt b p) (raw p)) s2
          let s4 := shown.foldl
            (fun u p => u.touchFrame (faderAt b p) ((bytes.getD (3 + 2 * p.val) 0).getLsbD 4)) s3
          let s5 := shown.foldl (fun u p =>
            if s.slotFor (faderAt b p) = none then u
            else
              match u.slotFor (faderAt b p) with
              | none => u
              | some (i, sl) => u.serveSlot i sl) s4
          let s6 := shown.foldl (fun u p => u.movedTest (faderAt b p)
            (decide (s.slotFor (faderAt b p) ≠ none ∨ (s.fader (faderAt b p)).motion = .absent))) s5
          t = s6.driveAttn

/-- The supply report of a good frame: one that is not good, with the condition clear, sets it, raises SUPPLY_FAULT and ends
the service of the bay's fitted faders in position order with outcome SupplyFault; with the condition set it ends nothing;
a good one clears the condition and moves nothing (R138, R139). -/
def Obligations.SupplyReportEndsService : Prop :=
  ∀ (b : BayId) (bytes : List Byte) (s : State), s.owned →
    let good := (bytes.getD 18 0).getLsbD 0
    let x := s.bay b
    (good = true → s.takeSupply b bytes = s.setBay b { x with supplyFault := false, supplyGood := true }) ∧
      (good = false → x.supplyFault = true → s.takeSupply b bytes = s.setBay b { x with supplyGood := false }) ∧
      (good = false → x.supplyFault = false →
        s.takeSupply b bytes =
          State.arbitrate
            ((s.fittedFaders b).foldl (fun t f => t.serviceEnded f .supplyFault)
              { s.setBay b { x with supplyFault := true, supplyGood := false } with
                attn := { s.attn with events := { s.attn.events with supplyFault := true } } }))

/-- A drive frame has 35 bytes: the start byte, the sequence number, the eight fader entries of enable and drive, the eight
meter entries of lit segments in bits 0..5 with the over light in bit 7, and hold segment, and a check byte that makes the sum
of every byte after the start byte 0 (R130, section 12.7). That bit 6 of a meter entry's first byte is 0 is the model's choice
(notes/assumptions/33.md). -/
def Obligations.DriveFrameBytes : Prop :=
  ∀ fr : DriveFrame, fr.bytes.length = 35 ∧ fr.bytes[0]? = some 0xD5 ∧ fr.bytes[1]? = some fr.seq ∧
    fr.bytes.tail.foldl (· + ·) 0 = (0 : Byte) ∧
    ∀ p : Position, (∃ e b, fr.bytes[2 + 2 * p.val]? = some e ∧ fr.bytes[3 + 2 * p.val]? = some b ∧
        e = (if fr.faders[p].enable then 1 else 0) ∧
        (-128 ≤ fr.faders[p].drive → fr.faders[p].drive ≤ 127 → b.toInt = fr.faders[p].drive)) ∧
      ∃ c d, fr.bytes[18 + 2 * p.val]? = some c ∧ fr.bytes[19 + 2 * p.val]? = some d ∧
        (fr.meters[p].lit ≤ 32 → c.toNat = fr.meters[p].lit + if fr.meters[p].overLight then 128 else 0) ∧
        c.getLsbD 6 = false ∧ c.getLsbD 7 = fr.meters[p].overLight ∧ (fr.meters[p].hold ≤ 32 → d.toNat = fr.meters[p].hold)

/-! ### The slot arbiter -/

/-- A grant, when Running, with fewer slots occupied than the slot limit and a free slot, fills the lowest-numbered
free slot from the head of the queue, which leaves it: a Move with its class, tag and the raw target, the setpoint
within the calibrated ends and the step; a Home at phase Down with class Home and tag 0; otherwise SLOT_GRANT does
nothing (R29, R43, R44, R61). A pre-emption, when Running, with as many slots occupied as the limit or more, takes the
Holding slot of the oldest hold stamp for the head of the queue: its holder is Idle with off-target clear and no
completion is written; otherwise PRE_EMPTION does nothing, and no Moving or Homing slot is ever taken (R44, R45). That each
of the two commands makes one decision and nothing else is the model's choice (notes/assumptions/15.md), and so are the zeros
of the slot fields that a use does not have (notes/assumptions/19.md). -/
def Obligations.GrantAndPreEmption : Prop :=
  (∀ s : State, s.bus.inReset = false →
    (∀ (e : Entry) (rest : List Entry) (i : SlotId), s.queue.run = .running → s.queue.entries = e :: rest →
        (s.queue.entries.map Entry.fader).Nodup → s.occupied < s.table.limit → s.slot i = none →
        (∀ j, j < i → s.slot j ≠ none) →
        let x := s.fader e.fader
        let t := { s with queue := { s.queue with entries := rest } }
        let target := rawOfPerMille x.cal.low x.cal.high x.targetPos
        let setpoint := clampNat x.cal.low x.cal.high x.raw
        (e.kind = .move →
            s.answers .slotGrant ((t.setSlot i (some ⟨e.fader, .moving, .down, e.cls, e.tag, e.marks, e.ramp, target,
              setpoint, stepFor setpoint target e.ramp x.setup.slewLimit, 0, 0, 0, none, 0, 0, 0, 0, 0, none, none,
              none, 0⟩)).setFader e.fader { x with motion := .moving })) ∧
          (e.kind = .home →
            s.answers .slotGrant ((t.setSlot i (some ⟨e.fader, .homing, .down, .home, 0, e.marks, e.ramp, 0, x.raw, 0, 0,
              0, 0, none, 0, 0, 0, 0, 0, none, none, none, 0⟩)).setFader e.fader
              { x with motion := .homing, cls := .home, tag := 0 }))) ∧
      (s.queue.run = .stopped ∨ s.queue.entries = [] ∨ s.table.limit ≤ s.occupied ∨ (∀ i, s.slot i ≠ none) →
        s.answers .slotGrant s)) ∧
  (∀ s : State, s.bus.inReset = false →
    (∀ (e : Entry) (rest : List Entry) (i : SlotId) (sl : Slot), s.queue.run = .running → s.queue.entries = e :: rest →
        (s.queue.entries.map Entry.fader).Nodup → s.table.limit ≤ s.occupied → s.slot i = some sl →
        sl.use = .holding →
        (∀ j sl', j ≠ i → s.slot j = some sl' → sl'.use = .holding → sl.holdStamp < sl'.holdStamp) →
        let t := { s.setFader sl.fader { s.fader sl.fader with motion := .idle, offTarget := false } with
          queue := { s.queue with entries := rest } }
        let x := t.fader e.fader
        let target := rawOfPerMille x.cal.low x.cal.high x.targetPos
        let setpoint := clampNat x.cal.low x.cal.high x.raw
        (e.kind = .move →
            s.answers .preEmption ((t.setSlot i (some ⟨e.fader, .moving, .down, e.cls, e.tag, e.marks, e.ramp, target,
              setpoint, stepFor setpoint target e.ramp x.setup.slewLimit, 0, 0, 0, none, 0, 0, 0, 0, 0, none, none,
              none, 0⟩)).setFader e.fader { x with motion := .moving })) ∧
          (e.kind = .home →
            s.answers .preEmption ((t.setSlot i (some ⟨e.fader, .homing, .down, .home, 0, e.marks, e.ramp, 0, x.raw, 0,
              0, 0, 0, none, 0, 0, 0, 0, 0, none, none, none, 0⟩)).setFader e.fader
              { x with motion := .homing, cls := .home, tag := 0 }))) ∧
      (s.queue.run = .stopped ∨ s.queue.entries = [] ∨ s.occupied < s.table.limit ∨
          (∀ i sl, s.slot i = some sl → sl.use ≠ .holding) →
        s.answers .preEmption s))

/-- The arbiter decides again after each decision until none is left: in Running then no grant and no pre-emption is
open (R43, R45). An entry that joins an ordered queue takes its place behind every entry of a higher class and every
older one of its own, and in front of the others, whose order is unchanged (R25). -/
def Obligations.ArbiterAndQueueOrder : Prop :=
  (∀ s : State, s.arbitrate.arbiterStep = none ∧ (s.arbiterStep = none → s.arbitrate = s) ∧
    ∀ t, s.arbiterStep = some t → s.arbitrate = t.arbitrate) ∧
  (∀ (e : Entry) (q : List Entry),
    q.Pairwise (fun a b => a.cls.code < b.cls.code ∨ (a.cls = b.cls ∧ a.stamp < b.stamp)) →
      (∀ d ∈ q, d.stamp ≠ e.stamp) →
      ∃ before after, q = before ++ after ∧ insertEntry e q = before ++ e :: after ∧
        (∀ d ∈ before, d.cls.code < e.cls.code ∨ (d.cls = e.cls ∧ d.stamp < e.stamp)) ∧
        ∀ d ∈ after, e.cls.code < d.cls.code ∨ (e.cls = d.cls ∧ e.stamp < d.stamp))

/-! ### Touch, the servo and homing -/

/-- A fader's touch bit in a good frame: a second frame in a row makes an Untouched fader Touched, a third one without
touch makes a Touched one Releasing under the release guard, and one with touch returns a Releasing one to Touched at
once (R73, R74, R75, R80). A fader that enters Touched is taken out of the machine's hands: TouchAbandoned for an
entry, a move and a homing, no completion for a hold, the latched flag set in Latch mode, and the slot it leaves free
for the arbiter (R28, R70, R77, R81). -/
def Obligations.TouchDebounceAndTakeover : Prop :=
  (∀ (f : FaderId) (s : State),
    let x := s.fader f
    (x.touch = .untouched →
        s.touchFrame f false = s.setFader f { x with touchRun := 0 } ∧
          (x.touchRun = 0 → s.touchFrame f true = s.setFader f { x with touchRun := 1 }) ∧
          (1 ≤ x.touchRun → s.touchFrame f true = s.enterTouched f)) ∧
      (x.touch = .touched →
        s.touchFrame f true = s.setFader f { x with releaseRun := 0 } ∧
          (x.releaseRun < 2 → s.touchFrame f false = s.setFader f { x with releaseRun := x.releaseRun + 1 }) ∧
          (2 ≤ x.releaseRun → 0 < s.setup.releaseGuard → s.touchFrame f false = s.setFader f
            { x with touch := .releasing, releaseRun := 0, guardTimer := s.setup.releaseGuard }) ∧
          (2 ≤ x.releaseRun → s.setup.releaseGuard = 0 → s.touchFrame f false =
            (s.setFader f { x with touch := .releasing, releaseRun := 0, guardTimer := 0 }).endReleasing f)) ∧
      (x.touch = .releasing →
        s.touchFrame f true = s.setFader f { x with touch := .touched, guardTimer := 0, releaseRun := 0 } ∧
          s.touchFrame f false = s)) ∧
  (∀ (f : FaderId) (s : State), s.owned →
    let x := s.fader f
    let ended := s.serviceEnded f .touchAbandoned
    let t := if x.motion = .holding then { ended with completions := s.completions } else ended
    s.enterTouched f =
      (t.modFader f fun y =>
        { y with touch := .touched, touchRun := 0, latched := y.latched || decide (x.mode = .latch) }).arbitrate)

/-- The step of a setpoint is the slew limit with ramp 0, and otherwise the smaller of the slew limit and the distance
divided by the ramp, rounded upward and at least 1 (R46). The drive is 0 within the deadband, and otherwise the error
times the servo gain over 8, truncated toward zero and brought within the drive limit: it pushes toward the setpoint
and stays below the exact quotient (R51). -/
def Obligations.StepAndDriveArithmetic : Prop :=
  (∀ setpoint target ramp slew : Nat,
    let dist := ((target : Int) - setpoint).natAbs
    stepFor setpoint target 0 slew = slew ∧
      (1 ≤ ramp → ∃ k, k = max 1 ((dist + ramp - 1) / ramp) ∧ dist ≤ k * ramp ∧ (1 < k → (k - 1) * ramp < dist) ∧
        stepFor setpoint target ramp slew = min slew k)) ∧
  (∀ (x : FaderSetup) (setpoint raw : Nat),
    let e : Int := setpoint - raw
    let d := driveFor x setpoint raw
    (e.natAbs ≤ x.deadband → d = 0) ∧ d.natAbs ≤ x.driveLimit ∧ 0 ≤ d * e ∧
      (x.deadband < e.natAbs → d.natAbs < x.driveLimit →
        8 * d.natAbs ≤ e.natAbs * x.servoGain ∧ e.natAbs * x.servoGain < 8 * d.natAbs + 8) ∧
      (x.deadband < e.natAbs → d.natAbs = x.driveLimit → 8 * x.driveLimit ≤ e.natAbs * x.servoGain))

/-- A Moving slot takes a good frame: the setpoint moves toward the target by the step and stops there, the settle count
runs while the setpoint stands at the target and the fader within its deadband, and the stall run while the drive is
saturated; it arrives at the settle frames, stalls when a full stall window moved less than the stall travel, and otherwise
goes on (R49, R50, R51, R53). A homing in Park takes it as a Moving slot does, arriving as Homed and stalling out of Park
(R68). A Holding slot keeps its setpoint and takes the drive toward it, and nothing else (R49, R51, R55). -/
def Obligations.MovingSlotTakesFrame : Prop :=
  (∀ (i : SlotId) (sl : Slot) (s : State),
    let x := s.fader sl.fader
    let point := if sl.setpoint ≤ sl.targetRaw then min sl.targetRaw (sl.setpoint + sl.step)
      else max sl.targetRaw (sl.setpoint - sl.step)
    let drive := driveFor x.setup point x.raw
    let settled := point = sl.targetRaw ∧ ((sl.targetRaw : Int) - x.raw).natAbs ≤ x.setup.deadband
    let settle := if settled then sl.settle + 1 else 0
    let saturated := x.setup.driveLimit ≤ drive.natAbs
    let run := if saturated then sl.stallRun + 1 else 0
    let reference := if saturated then (if sl.stallRun = 0 then some x.raw else sl.stallRef) else none
    let sl' := { sl with setpoint := point, drive := drive, settle := settle, stallRun := run, stallRef := reference }
    let t := s.setSlot i (some sl')
    let arrived := settled ∧ x.setup.settleFrames ≤ settle
    let judged := s.setup.stallWindow ≤ run
    let still := ((x.raw : Int) - (reference.getD x.raw : Nat)).natAbs < s.setup.stallTravel
    (sl.use = .moving →
        (arrived → s.serveSlot i sl = t.arrive i sl') ∧
          (¬arrived → judged → still → s.serveSlot i sl = t.stallMove i sl')) ∧
      (sl.use = .homing → sl.phase = .park →
        (arrived → s.serveSlot i sl = t.homed i sl') ∧
          (¬arrived → judged → still → s.serveSlot i sl = t.stallPark i sl')) ∧
      (sl.use = .moving ∨ sl.use = .homing ∧ sl.phase = .park →
        (¬arrived → judged → ¬still →
            s.serveSlot i sl = s.setSlot i (some { sl' with stallRun := 0, stallRef := none })) ∧
          (¬arrived → ¬judged → s.serveSlot i sl = t))) ∧
  (∀ (i : SlotId) (sl : Slot) (s : State), sl.use = .holding →
    let x := s.fader sl.fader
    s.serveSlot i sl = s.setSlot i (some { sl with drive := driveFor x.setup sl.setpoint x.raw }))

/-- An arrival writes Arrived and clears off-target, and the slot becomes Holding with the next hold stamp, or is
freed with hold frames 0; a stall writes Stalled, frees the slot and latches the fault with FADER_FAULT; then the
arbiter decides (R45, R47, R50, R53, R59). A homing that ends Homed writes the found pair into the calibration record,
sets calibrated, clears latch and cause and off-target, and begins the hold; a stall in Park discards the pair,
latches the fault and returns the per-mille to the record, its final position being the per-mille before that return,
which is deduced (R45, R47, R59, R68). -/
def Obligations.ArrivalAndStallEndTheSlot : Prop :=
  (∀ (i : SlotId) (sl : Slot) (s : State),
    let f := sl.fader
    let x := s.fader f
    let record (o : EndOutcome) : List Completion :=
      writeRecord ⟨f, o, .none, sl.cls, sl.tag, sl.marks, false, x.perMille, false⟩ s.completions
    (x.setup.holdFrames = 0 →
        s.arrive i sl =
          State.arbitrate { (s.setSlot i none).setFader f { x with motion := .idle, offTarget := false } with
            completions := record .arrived }) ∧
      (0 < x.setup.holdFrames →
        s.arrive i sl =
          State.arbitrate
            { s.setFader f { x with motion := .holding, offTarget := false } with
              completions := record .arrived
              table := { s.table with
                nextHold := s.table.nextHold + 1
                slots := s.table.slots.set i (some { sl with
                  use := .holding, phase := .down, holdTimer := x.setup.holdFrames, holdStamp := s.table.nextHold,
                  settle := 0, age := 0, stallRun := 0, stallRef := none, foundLow := none, foundHigh := none }) } }) ∧
      s.stallMove i sl =
        State.arbitrate
          { (s.setSlot i none).setFader f
              { x with motion := .faulted, offTarget := true,
                       cal := { x.cal with latched := true, cause := .stall } } with
            completions := record .stalled
            attn := { s.attn with events := { s.attn.events with faderFault := true } } }) ∧
  (∀ (i : SlotId) (sl : Slot) (s : State) (low high : Nat), sl.use = .homing → sl.phase = .park →
    sl.foundLow = some low → sl.foundHigh = some high →
    (∀ j sl', j ≠ i → s.slot j = some sl' → sl'.fader ≠ sl.fader) →
    let f := sl.fader
    let x := s.fader f
    let record (o : EndOutcome) : List Completion :=
      writeRecord ⟨f, o, .none, .home, 0, sl.marks, false, x.perMille, false⟩ s.completions
    let homed := { x with offTarget := false, cal := ⟨low, high, true, false, .none⟩ }
    (x.setup.holdFrames = 0 →
        s.homed i sl =
          State.arbitrate { (s.setSlot i none).setFader f { homed with motion := .idle } with
            completions := record .homed }) ∧
      (0 < x.setup.holdFrames →
        s.homed i sl =
          State.arbitrate
            { s.setFader f { homed with motion := .holding } with
              completions := record .homed
              table := { s.table with
                nextHold := s.table.nextHold + 1
                slots := s.table.slots.set i (some { sl with
                  use := .holding, phase := .down, holdTimer := x.setup.holdFrames, holdStamp := s.table.nextHold,
                  settle := 0, age := 0, stallRun := 0, stallRef := none, foundLow := none, foundHigh := none }) } }) ∧
      s.stallPark i sl =
        State.arbitrate
          { (s.setSlot i none).setFader f
              { x with motion := .faulted, offTarget := true, perMille := perMilleOfRaw x.cal.low x.cal.high x.raw,
                       cal := { x.cal with latched := true, cause := .stall } } with
            completions := record .stalled
            attn := { s.attn with events := { s.attn.events with faderFault := true } } })

/-- Phases Down and Up of a homing on a good frame: the fader is driven on until a still run of the home still frames moved
fewer counts than the home still travel; Down then takes the found low and pushes up, and Up passes its span check into
Park under the found pair or fails with cause HomeSpan (R58, R62, R63, R64, R66, R67). That a target of Off
parks at the found low whatever position is recorded beside it is deduced (R32, R67; notes/assumptions/30.md). -/
def Obligations.HomingFindsTravelEnds : Prop :=
  ∀ (i : SlotId) (sl : Slot) (s : State), sl.use = .homing → sl.phase ≠ .park →
    (∀ j sl', j ≠ i → s.slot j = some sl' → sl'.fader ≠ sl.fader) →
    let f := sl.fader
    let x := s.fader f
    let run := sl.stillRun + 1
    let reference := if sl.stillRun = 0 then x.raw else sl.stillRef.getD x.raw
    let ended := s.setup.stillFrames ≤ run
    let still := ((x.raw : Int) - reference).natAbs < s.setup.stillTravel
    let push : Int := if sl.phase = .down then -(x.setup.homeDrive : Int) else x.setup.homeDrive
    let on (r : Nat) (ref : Option Nat) : State :=
      s.setSlot i (some { sl with setpoint := x.raw, stillRun := r, stillRef := ref, drive := push })
    let low := sl.foundLow.getD x.cal.low
    let target := if x.targetGain = .off then low else rawOfPerMille low x.raw x.targetPos
    (¬ended → s.serveSlot i sl = on run (if sl.stillRun = 0 then some x.raw else sl.stillRef)) ∧
      (ended → ¬still → s.serveSlot i sl = on 1 (some x.raw)) ∧
      (ended → still → sl.phase = .down →
        s.serveSlot i sl = s.setSlot i (some { sl with
          setpoint := x.raw, phase := .up, foundLow := some x.raw, phaseAge := 0, stillRun := 0, stillRef := none,
          drive := x.setup.homeDrive })) ∧
      (ended → still → sl.phase = .up → (s.setup.minSpan : Int) ≤ (x.raw : Int) - low →
        s.serveSlot i sl =
          (s.setSlot i (some { sl with
            phase := .park, foundLow := some low, foundHigh := some x.raw, targetRaw := target, setpoint := x.raw,
            step := stepFor x.raw target sl.ramp x.setup.slewLimit, settle := 0, age := 0, stallRun := 0,
            stallRef := none, stillRun := 0, stillRef := none, phaseAge := 0, drive := 0 })).setFader f
            { x with perMille := perMilleOfRaw low x.raw x.raw }) ∧
      (ended → still → sl.phase = .up → (x.raw : Int) - low < s.setup.minSpan →
        s.serveSlot i sl =
          State.arbitrate
            { (s.setSlot i none).setFader f
                { x with motion := .faulted, offTarget := true,
                         cal := { x.cal with latched := true, cause := .homeSpan } } with
              completions :=
                writeRecord ⟨f, .homeFailed, .none, .home, 0, sl.marks, false, x.perMille, false⟩ s.completions
              attn := { s.attn with events := { s.attn.events with faderFault := true } } })

/-! ### The gain law -/

/-- Under a taper table of R10 the forward conversion brings a gain to the floor..ceiling range, flags when it did, gives each
point of the table exactly, stays within 0..1000, never falls as the gain rises, and rounds to the nearest per-mille, halves
up, flagging a rise above the exact quotient; Off is position 0 with both flags clear (R10, R11). -/
def Obligations.ForwardConversionOfGains : Prop :=
  ∀ t : List TaperPoint, taperOk t = true →
    convertGain t .off = ⟨.off, 0, false, false⟩ ∧
      (∀ p ∈ t, convertGain t (.cdb p.gain) = ⟨.cdb p.gain, p.pos, false, false⟩) ∧
      ∀ v : Int,
        let a := if v < floorGain t then floorGain t else if ceilingGain t < v then ceilingGain t else v
        let c := convertGain t (.cdb v)
        c.accepted = .cdb a ∧ (c.clamped = true ↔ v < floorGain t ∨ ceilingGain t < v) ∧ c.pos ≤ 1000 ∧
          (∀ w, v ≤ w → c.pos ≤ (convertGain t (.cdb w)).pos) ∧
          ∀ before p q after, t = before ++ p :: q :: after → p.gain ≤ a → a ≤ q.gain →
            let exact := (a - p.gain) * ((q.pos : Int) - p.pos)
            let span := q.gain - p.gain
            let added := (c.pos : Int) - p.pos
            2 * exact - span < 2 * (added * span) ∧ 2 * (added * span) ≤ 2 * exact + span ∧
              (c.roundedUp = true ↔ exact < added * span)

/-- Under a gain law of R10 the inverse conversion reads Off below the cut position, each point of the table exactly
at or above it, and otherwise the gain of the exact quotient between two neighbouring points rounded to the nearest, halves
up, between floor and ceiling and never falling as the position rises (R4, R12). The raw mapping through a calibration: both
ends are exact, per-mille to raw stays between them, raw to per-mille stays within 0..1000 and takes every reading at or
beyond an end to that end, each is the exact quotient rounded to the nearest, halves up, and neither falls as its operand
rises (R13). -/
def Obligations.InverseAndRawMapping : Prop :=
  (∀ law : GainLaw, law.ok →
    (∀ p, p < law.cut → gainOfPerMille law p = .off) ∧
      (∀ q ∈ law.taper, law.cut ≤ q.pos → gainOfPerMille law q.pos = .cdb q.gain) ∧
      ∀ p, law.cut ≤ p → p ≤ 1000 →
        ∃ g, gainOfPerMille law p = .cdb g ∧ floorGain law.taper ≤ g ∧ g ≤ ceilingGain law.taper ∧
          (∀ q h, p ≤ q → q ≤ 1000 → gainOfPerMille law q = .cdb h → g ≤ h) ∧
          ∀ before u v after, law.taper = before ++ u :: v :: after → u.pos ≤ p → p ≤ v.pos →
            let exact := ((p : Int) - u.pos) * (v.gain - u.gain)
            let span := (v.pos : Int) - u.pos
            2 * exact - span < 2 * ((g - u.gain) * span) ∧ 2 * ((g - u.gain) * span) ≤ 2 * exact + span) ∧
  (∀ low high : Nat, low < high →
    rawOfPerMille low high 0 = low ∧ rawOfPerMille low high 1000 = high ∧
      (∀ p q, p ≤ q → q ≤ 1000 →
        low ≤ rawOfPerMille low high p ∧ rawOfPerMille low high p ≤ rawOfPerMille low high q ∧
          rawOfPerMille low high q ≤ high) ∧
      (∀ r r', r ≤ r' → perMilleOfRaw low high r ≤ perMilleOfRaw low high r' ∧ perMilleOfRaw low high r' ≤ 1000) ∧
      (∀ r, r ≤ low → perMilleOfRaw low high r = 0) ∧ (∀ r, high ≤ r → perMilleOfRaw low high r = 1000) ∧
      (∀ p, p ≤ 1000 →
        2 * (p * (high - low)) < 2 * ((rawOfPerMille low high p - low) * 1000) + 1000 ∧
          2 * ((rawOfPerMille low high p - low) * 1000) ≤ 2 * (p * (high - low)) + 1000) ∧
      ∀ r, low ≤ r → r ≤ high →
        2 * ((r - low) * 1000) < 2 * (perMilleOfRaw low high r * (high - low)) + (high - low) ∧
          2 * (perMilleOfRaw low high r * (high - low)) ≤ 2 * ((r - low) * 1000) + (high - low))

/-! ### What every step keeps -/

/-- Memory keeps its canonical form, addresses strictly rising, at every step. Each list of the part keeps its form at
every step, by itself: the cue list its 256 places and the order of leads and captures, with no two cues for one fader
and due time (R90); the wait queue the order of class and stamp (R25); the completion queue one record per fader,
opened only at the head (R143, R144); the history its four entries of 1 to 48 distinct faders, none numbered 0 (R107,
R108). -/
def Obligations.MemoryAndListsKeepTheirForm : Prop :=
  (∀ s t : State, Memory.wf s.mem → step s = .next t → Memory.wf t.mem) ∧
  (∀ s t : State, step s = .next t →
    (s.cues.ok → t.cues.ok) ∧ (s.queue.ordered → t.queue.ordered) ∧
      (completionsOk s.completions → completionsOk t.completions) ∧ (s.recalls.ok → t.recalls.ok))

/-- Every step keeps who has hold of each fader: Waiting exactly with one entry, Moving, Holding or Homing exactly with one
slot of that use, Absent exactly off a Present bay or unfitted; no fader that is held, inhibited or on a bay with a supply
fault is in queue or slot; and a pending target is held only while Touched or Releasing (R2, R24, R28, R41, R79, R85). -/
def Obligations.OwnershipOfFadersIsKept : Prop :=
  ∀ s t : State, s.owned → s.absentOk → s.heldFree → s.pendingOnlyHeld → step s = .next t →
    t.owned ∧ t.absentOk ∧ t.heldFree ∧ t.pendingOnlyHeld

/-- After every step the arbiter has nothing left to decide in Running, and queue and slot table stay empty while Stopped
(R37, R43, R45). That no other command comes between a grant's opening and the grant is the model's choice
(notes/assumptions/15.md). -/
def Obligations.ArbiterStaysSettled : Prop :=
  ∀ s t : State, s.settled → step s = .next t → t.settled

/-- Every step keeps the tables in force (R10, R121), every setting within its range (R42, R56, R60, R76, R96, R124, R147,
R149), every meter's levels within range with the hold never below the display (R114), and every bay record's counts to its
state (R132, R133, R136). -/
def Obligations.TablesAndSettingsStayInRange : Prop :=
  ∀ s t : State, step s = .next t →
    (s.law.ok → t.law.ok) ∧ (scaleInForce s.engine.scale → scaleInForce t.engine.scale) ∧
      (s.settingsOk → t.settingsOk) ∧
      ((∀ m, (s.meter m).setup.inRange ∧ (s.meter m).ok) → ∀ m, (t.meter m).ok) ∧
      ((∀ b, (s.bay b).ok) → ∀ b, (t.bay b).ok)

/-- Every step keeps every calibration record with its high end above its low end, every setpoint and target of a slot
between its ends, every position within range, and every per-mille the raw mapping of the raw position under the calibration
in force (R3, R13, R50, R58, R67). -/
def Obligations.PositionsStayCalibrated : Prop :=
  ∀ s t : State, s.owned → s.absentOk → s.heldFree → s.pendingOnlyHeld → s.settingsOk → s.law.ok → s.positionsOk →
    step s = .next t →
    t.positionsOk ∧
      ((∀ f, (s.fader f).perMille = perMilleOfRaw (s.calInForce f).1 (s.calInForce f).2 (s.fader f).raw) →
        ∀ f, (t.fader f).perMille = perMilleOfRaw (t.calInForce f).1 (t.calInForce f).2 (t.fader f).raw)

/-- The state after reset meets every invariant of the statements. -/
def Obligations.ResetMeetsTheInvariants : Prop :=
  let s := State.reset
  Memory.wf s.mem ∧ s.cues.ok ∧ s.queue.ordered ∧ completionsOk s.completions ∧ s.recalls.ok ∧ s.owned ∧ s.absentOk ∧
    s.heldFree ∧ s.pendingOnlyHeld ∧ s.settled ∧ s.law.ok ∧ scaleInForce s.engine.scale ∧ s.settingsOk ∧
    (∀ m, (s.meter m).ok) ∧ (∀ b, (s.bay b).ok) ∧ s.positionsOk ∧ s.attnCurrent ∧ s.advanceWhole ∧
    ∀ f, (s.fader f).perMille = perMilleOfRaw (s.calInForce f).1 (s.calInForce f).2 (s.fader f).raw

/-- The run state changes only by RESET or a code 1, 2 or 3 written to the run control word, and the travel ends and the
calibrated flag of a calibration record change only by RESET or on a sense frame of the fader's bay that ends its Park, which
then takes the pair its homing found (R36, R58, R68). That the code is lane 0 of the run control word, whatever its other lanes:
the run control field is the model's choice (notes/assumptions/28.md). -/
def Obligations.RunStateAndCalibrationChangeOnlyByRule : Prop :=
  ∀ (c : Instr) (s t : State), exec c s = .next t → s.owned →
    (t.queue.run ≠ s.queue.run → c = .reset ∨
        ∃ (l : Lanes) (code : Byte), l.lane0 = some code ∧ (code = 1 ∨ code = 2 ∨ code = 3) ∧
          (busForm c = some (.command .runControl, l) ∨
            ∃ addr, c = .wordWrite addr l ∧ s.wordAtAddress addr.toNat = some (.command .runControl))) ∧
      ∀ f : FaderId, ((t.fader f).cal.low, (t.fader f).cal.high, (t.fader f).cal.calibrated) ≠
          ((s.fader f).cal.low, (s.fader f).cal.high, (s.fader f).cal.calibrated) →
        c = .reset ∨ ∃ bytes i sl, c = .senseFrame (bayOf f) bytes ∧ s.slotFor f = some (i, sl) ∧ sl.use = .homing ∧
          sl.phase = .park ∧ (t.fader f).cal.calibrated = true ∧ (t.fader f).cal.low = sl.foundLow.getD (s.fader f).cal.low ∧
          (t.fader f).cal.high = sl.foundHigh.getD (s.fader f).cal.high

end
end

