-- ==== Sys2Proof/Laws/State.lean ====
section
/-! SUPPORT. The field lemmas of the state: for each shared update, what every field reads after it. Each is true by rfl and
tagged for simp, so that no later proof unfolds a record update. -/

namespace Sys2Proof.Machine

/-! ### `store` -/

@[simp] theorem State.store_bus (s : State) (a : Nat) (l : Lanes) : (s.store a l).bus = s.bus := rfl
@[simp] theorem State.store_staging (s : State) (a : Nat) (l : Lanes) : (s.store a l).staging = s.staging := rfl
@[simp] theorem State.store_law (s : State) (a : Nat) (l : Lanes) : (s.store a l).law = s.law := rfl
@[simp] theorem State.store_faders (s : State) (a : Nat) (l : Lanes) : (s.store a l).faders = s.faders := rfl
@[simp] theorem State.store_queue (s : State) (a : Nat) (l : Lanes) : (s.store a l).queue = s.queue := rfl
@[simp] theorem State.store_table (s : State) (a : Nat) (l : Lanes) : (s.store a l).table = s.table := rfl
@[simp] theorem State.store_setup (s : State) (a : Nat) (l : Lanes) : (s.store a l).setup = s.setup := rfl
@[simp] theorem State.store_cues (s : State) (a : Nat) (l : Lanes) : (s.store a l).cues = s.cues := rfl
@[simp] theorem State.store_recalls (s : State) (a : Nat) (l : Lanes) : (s.store a l).recalls = s.recalls := rfl
@[simp] theorem State.store_engine (s : State) (a : Nat) (l : Lanes) : (s.store a l).engine = s.engine := rfl
@[simp] theorem State.store_bays (s : State) (a : Nat) (l : Lanes) : (s.store a l).bays = s.bays := rfl
@[simp] theorem State.store_completions (s : State) (a : Nat) (l : Lanes) :
    (s.store a l).completions = s.completions := rfl
@[simp] theorem State.store_attn (s : State) (a : Nat) (l : Lanes) : (s.store a l).attn = s.attn := rfl
@[simp] theorem State.store_early (s : State) (a : Nat) (l : Lanes) : (s.store a l).early = s.early := rfl
@[simp] theorem State.store_pending (s : State) (a : Nat) (l : Lanes) : (s.store a l).pending = s.pending := rfl
@[simp] theorem State.store_fader (s : State) (a : Nat) (l : Lanes) (q : FaderId) :
    (s.store a l).fader q = s.fader q := rfl
@[simp] theorem State.store_slot (s : State) (a : Nat) (l : Lanes) (j : SlotId) : (s.store a l).slot j = s.slot j := rfl
@[simp] theorem State.store_meter (s : State) (a : Nat) (l : Lanes) (j : MeterId) :
    (s.store a l).meter j = s.meter j := rfl
@[simp] theorem State.store_bay (s : State) (a : Nat) (l : Lanes) (j : BayId) : (s.store a l).bay j = s.bay j := rfl

/-! ### `setFader` -/

@[simp] theorem State.setFader_bus (s : State) (f : FaderId) (x : Fader) : (s.setFader f x).bus = s.bus := rfl
@[simp] theorem State.setFader_mem (s : State) (f : FaderId) (x : Fader) : (s.setFader f x).mem = s.mem := rfl
@[simp] theorem State.setFader_staging (s : State) (f : FaderId) (x : Fader) :
    (s.setFader f x).staging = s.staging := rfl
@[simp] theorem State.setFader_law (s : State) (f : FaderId) (x : Fader) : (s.setFader f x).law = s.law := rfl
@[simp] theorem State.setFader_queue (s : State) (f : FaderId) (x : Fader) : (s.setFader f x).queue = s.queue := rfl
@[simp] theorem State.setFader_table (s : State) (f : FaderId) (x : Fader) : (s.setFader f x).table = s.table := rfl
@[simp] theorem State.setFader_setup (s : State) (f : FaderId) (x : Fader) : (s.setFader f x).setup = s.setup := rfl
@[simp] theorem State.setFader_cues (s : State) (f : FaderId) (x : Fader) : (s.setFader f x).cues = s.cues := rfl
@[simp] theorem State.setFader_recalls (s : State) (f : FaderId) (x : Fader) :
    (s.setFader f x).recalls = s.recalls := rfl
@[simp] theorem State.setFader_engine (s : State) (f : FaderId) (x : Fader) : (s.setFader f x).engine = s.engine := rfl
@[simp] theorem State.setFader_bays (s : State) (f : FaderId) (x : Fader) : (s.setFader f x).bays = s.bays := rfl
@[simp] theorem State.setFader_completions (s : State) (f : FaderId) (x : Fader) :
    (s.setFader f x).completions = s.completions := rfl
@[simp] theorem State.setFader_attn (s : State) (f : FaderId) (x : Fader) : (s.setFader f x).attn = s.attn := rfl
@[simp] theorem State.setFader_early (s : State) (f : FaderId) (x : Fader) :
    (s.setFader f x).early = s.early := rfl
@[simp] theorem State.setFader_pending (s : State) (f : FaderId) (x : Fader) :
    (s.setFader f x).pending = s.pending := rfl
@[simp] theorem State.setFader_slot (s : State) (f : FaderId) (x : Fader) (j : SlotId) :
    (s.setFader f x).slot j = s.slot j := rfl
@[simp] theorem State.setFader_meter (s : State) (f : FaderId) (x : Fader) (j : MeterId) :
    (s.setFader f x).meter j = s.meter j := rfl
@[simp] theorem State.setFader_bay (s : State) (f : FaderId) (x : Fader) (j : BayId) :
    (s.setFader f x).bay j = s.bay j := rfl

/-! ### `modFader` -/

@[simp] theorem State.modFader_bus (s : State) (f : FaderId) (g : Fader → Fader) : (s.modFader f g).bus = s.bus := rfl
@[simp] theorem State.modFader_mem (s : State) (f : FaderId) (g : Fader → Fader) : (s.modFader f g).mem = s.mem := rfl
@[simp] theorem State.modFader_staging (s : State) (f : FaderId) (g : Fader → Fader) :
    (s.modFader f g).staging = s.staging := rfl
@[simp] theorem State.modFader_law (s : State) (f : FaderId) (g : Fader → Fader) : (s.modFader f g).law = s.law := rfl
@[simp] theorem State.modFader_queue (s : State) (f : FaderId) (g : Fader → Fader) :
    (s.modFader f g).queue = s.queue := rfl
@[simp] theorem State.modFader_table (s : State) (f : FaderId) (g : Fader → Fader) :
    (s.modFader f g).table = s.table := rfl
@[simp] theorem State.modFader_setup (s : State) (f : FaderId) (g : Fader → Fader) :
    (s.modFader f g).setup = s.setup := rfl
@[simp] theorem State.modFader_cues (s : State) (f : FaderId) (g : Fader → Fader) :
    (s.modFader f g).cues = s.cues := rfl
@[simp] theorem State.modFader_recalls (s : State) (f : FaderId) (g : Fader → Fader) :
    (s.modFader f g).recalls = s.recalls := rfl
@[simp] theorem State.modFader_engine (s : State) (f : FaderId) (g : Fader → Fader) :
    (s.modFader f g).engine = s.engine := rfl
@[simp] theorem State.modFader_bays (s : State) (f : FaderId) (g : Fader → Fader) :
    (s.modFader f g).bays = s.bays := rfl
@[simp] theorem State.modFader_completions (s : State) (f : FaderId) (g : Fader → Fader) :
    (s.modFader f g).completions = s.completions := rfl
@[simp] theorem State.modFader_attn (s : State) (f : FaderId) (g : Fader → Fader) :
    (s.modFader f g).attn = s.attn := rfl
@[simp] theorem State.modFader_early (s : State) (f : FaderId) (g : Fader → Fader) :
    (s.modFader f g).early = s.early := rfl
@[simp] theorem State.modFader_pending (s : State) (f : FaderId) (g : Fader → Fader) :
    (s.modFader f g).pending = s.pending := rfl
@[simp] theorem State.modFader_slot (s : State) (f : FaderId) (g : Fader → Fader) (j : SlotId) :
    (s.modFader f g).slot j = s.slot j := rfl
@[simp] theorem State.modFader_meter (s : State) (f : FaderId) (g : Fader → Fader) (j : MeterId) :
    (s.modFader f g).meter j = s.meter j := rfl
@[simp] theorem State.modFader_bay (s : State) (f : FaderId) (g : Fader → Fader) (j : BayId) :
    (s.modFader f g).bay j = s.bay j := rfl

/-! ### `mapFaders` -/

@[simp] theorem State.mapFaders_bus (s : State) (g : FaderId → Fader → Fader) : (s.mapFaders g).bus = s.bus := by simp only [State.mapFaders]
@[simp] theorem State.mapFaders_mem (s : State) (g : FaderId → Fader → Fader) : (s.mapFaders g).mem = s.mem := by simp only [State.mapFaders]
@[simp] theorem State.mapFaders_staging (s : State) (g : FaderId → Fader → Fader) :
    (s.mapFaders g).staging = s.staging := by simp only [State.mapFaders]
@[simp] theorem State.mapFaders_law (s : State) (g : FaderId → Fader → Fader) : (s.mapFaders g).law = s.law := by simp only [State.mapFaders]
@[simp] theorem State.mapFaders_queue (s : State) (g : FaderId → Fader → Fader) : (s.mapFaders g).queue = s.queue := by simp only [State.mapFaders]
@[simp] theorem State.mapFaders_table (s : State) (g : FaderId → Fader → Fader) : (s.mapFaders g).table = s.table := by simp only [State.mapFaders]
@[simp] theorem State.mapFaders_setup (s : State) (g : FaderId → Fader → Fader) : (s.mapFaders g).setup = s.setup := by simp only [State.mapFaders]
@[simp] theorem State.mapFaders_cues (s : State) (g : FaderId → Fader → Fader) : (s.mapFaders g).cues = s.cues := by simp only [State.mapFaders]
@[simp] theorem State.mapFaders_recalls (s : State) (g : FaderId → Fader → Fader) :
    (s.mapFaders g).recalls = s.recalls := by simp only [State.mapFaders]
@[simp] theorem State.mapFaders_engine (s : State) (g : FaderId → Fader → Fader) :
    (s.mapFaders g).engine = s.engine := by simp only [State.mapFaders]
@[simp] theorem State.mapFaders_bays (s : State) (g : FaderId → Fader → Fader) : (s.mapFaders g).bays = s.bays := by simp only [State.mapFaders]
@[simp] theorem State.mapFaders_completions (s : State) (g : FaderId → Fader → Fader) :
    (s.mapFaders g).completions = s.completions := by simp only [State.mapFaders]
@[simp] theorem State.mapFaders_attn (s : State) (g : FaderId → Fader → Fader) : (s.mapFaders g).attn = s.attn := by simp only [State.mapFaders]
@[simp] theorem State.mapFaders_early (s : State) (g : FaderId → Fader → Fader) :
    (s.mapFaders g).early = s.early := by simp only [State.mapFaders]
@[simp] theorem State.mapFaders_pending (s : State) (g : FaderId → Fader → Fader) :
    (s.mapFaders g).pending = s.pending := by simp only [State.mapFaders]
@[simp] theorem State.mapFaders_slot (s : State) (g : FaderId → Fader → Fader) (j : SlotId) :
    (s.mapFaders g).slot j = s.slot j := by simp only [State.slot, State.mapFaders]
@[simp] theorem State.mapFaders_meter (s : State) (g : FaderId → Fader → Fader) (j : MeterId) :
    (s.mapFaders g).meter j = s.meter j := by simp only [State.meter, State.mapFaders]
@[simp] theorem State.mapFaders_bay (s : State) (g : FaderId → Fader → Fader) (j : BayId) :
    (s.mapFaders g).bay j = s.bay j := by simp only [State.bay, State.mapFaders]

/-! ### `refreshPerMille` -/

@[simp] theorem State.refreshPerMille_bus (s : State) (f : FaderId) :
    (s.refreshPerMille f).bus = s.bus := by simp [State.refreshPerMille]
@[simp] theorem State.refreshPerMille_mem (s : State) (f : FaderId) :
    (s.refreshPerMille f).mem = s.mem := by simp [State.refreshPerMille]
@[simp] theorem State.refreshPerMille_staging (s : State) (f : FaderId) :
    (s.refreshPerMille f).staging = s.staging := by simp [State.refreshPerMille]
@[simp] theorem State.refreshPerMille_law (s : State) (f : FaderId) :
    (s.refreshPerMille f).law = s.law := by simp [State.refreshPerMille]
@[simp] theorem State.refreshPerMille_queue (s : State) (f : FaderId) :
    (s.refreshPerMille f).queue = s.queue := by simp [State.refreshPerMille]
@[simp] theorem State.refreshPerMille_table (s : State) (f : FaderId) :
    (s.refreshPerMille f).table = s.table := by simp [State.refreshPerMille]
@[simp] theorem State.refreshPerMille_setup (s : State) (f : FaderId) :
    (s.refreshPerMille f).setup = s.setup := by simp [State.refreshPerMille]
@[simp] theorem State.refreshPerMille_cues (s : State) (f : FaderId) :
    (s.refreshPerMille f).cues = s.cues := by simp [State.refreshPerMille]
@[simp] theorem State.refreshPerMille_recalls (s : State) (f : FaderId) :
    (s.refreshPerMille f).recalls = s.recalls := by simp [State.refreshPerMille]
@[simp] theorem State.refreshPerMille_engine (s : State) (f : FaderId) :
    (s.refreshPerMille f).engine = s.engine := by simp [State.refreshPerMille]
@[simp] theorem State.refreshPerMille_bays (s : State) (f : FaderId) :
    (s.refreshPerMille f).bays = s.bays := by simp [State.refreshPerMille]
@[simp] theorem State.refreshPerMille_completions (s : State) (f : FaderId) :
    (s.refreshPerMille f).completions = s.completions := by simp [State.refreshPerMille]
@[simp] theorem State.refreshPerMille_attn (s : State) (f : FaderId) :
    (s.refreshPerMille f).attn = s.attn := by simp [State.refreshPerMille]
@[simp] theorem State.refreshPerMille_early (s : State) (f : FaderId) :
    (s.refreshPerMille f).early = s.early := by simp [State.refreshPerMille]
@[simp] theorem State.refreshPerMille_pending (s : State) (f : FaderId) :
    (s.refreshPerMille f).pending = s.pending := by simp [State.refreshPerMille]
@[simp] theorem State.refreshPerMille_slot (s : State) (f : FaderId) (j : SlotId) :
    (s.refreshPerMille f).slot j = s.slot j := by simp [State.refreshPerMille]
@[simp] theorem State.refreshPerMille_meter (s : State) (f : FaderId) (j : MeterId) :
    (s.refreshPerMille f).meter j = s.meter j := by simp [State.refreshPerMille]
@[simp] theorem State.refreshPerMille_bay (s : State) (f : FaderId) (j : BayId) :
    (s.refreshPerMille f).bay j = s.bay j := by simp [State.refreshPerMille]

/-! ### `targetFromPresent` -/

@[simp] theorem State.targetFromPresent_bus (s : State) (f : FaderId) : (s.targetFromPresent f).bus = s.bus := rfl
@[simp] theorem State.targetFromPresent_mem (s : State) (f : FaderId) : (s.targetFromPresent f).mem = s.mem := rfl
@[simp] theorem State.targetFromPresent_staging (s : State) (f : FaderId) :
    (s.targetFromPresent f).staging = s.staging := rfl
@[simp] theorem State.targetFromPresent_law (s : State) (f : FaderId) : (s.targetFromPresent f).law = s.law := rfl
@[simp] theorem State.targetFromPresent_queue (s : State) (f : FaderId) : (s.targetFromPresent f).queue = s.queue := rfl
@[simp] theorem State.targetFromPresent_table (s : State) (f : FaderId) : (s.targetFromPresent f).table = s.table := rfl
@[simp] theorem State.targetFromPresent_setup (s : State) (f : FaderId) : (s.targetFromPresent f).setup = s.setup := rfl
@[simp] theorem State.targetFromPresent_cues (s : State) (f : FaderId) : (s.targetFromPresent f).cues = s.cues := rfl
@[simp] theorem State.targetFromPresent_recalls (s : State) (f : FaderId) :
    (s.targetFromPresent f).recalls = s.recalls := rfl
@[simp] theorem State.targetFromPresent_engine (s : State) (f : FaderId) :
    (s.targetFromPresent f).engine = s.engine := rfl
@[simp] theorem State.targetFromPresent_bays (s : State) (f : FaderId) : (s.targetFromPresent f).bays = s.bays := rfl
@[simp] theorem State.targetFromPresent_completions (s : State) (f : FaderId) :
    (s.targetFromPresent f).completions = s.completions := rfl
@[simp] theorem State.targetFromPresent_attn (s : State) (f : FaderId) : (s.targetFromPresent f).attn = s.attn := rfl
@[simp] theorem State.targetFromPresent_early (s : State) (f : FaderId) :
    (s.targetFromPresent f).early = s.early := rfl
@[simp] theorem State.targetFromPresent_pending (s : State) (f : FaderId) :
    (s.targetFromPresent f).pending = s.pending := rfl
@[simp] theorem State.targetFromPresent_slot (s : State) (f : FaderId) (j : SlotId) :
    (s.targetFromPresent f).slot j = s.slot j := rfl
@[simp] theorem State.targetFromPresent_meter (s : State) (f : FaderId) (j : MeterId) :
    (s.targetFromPresent f).meter j = s.meter j := rfl
@[simp] theorem State.targetFromPresent_bay (s : State) (f : FaderId) (j : BayId) :
    (s.targetFromPresent f).bay j = s.bay j := rfl

/-! ### `setSlot` -/

@[simp] theorem State.setSlot_bus (s : State) (i : SlotId) (o : Option Slot) : (s.setSlot i o).bus = s.bus := rfl
@[simp] theorem State.setSlot_mem (s : State) (i : SlotId) (o : Option Slot) : (s.setSlot i o).mem = s.mem := rfl
@[simp] theorem State.setSlot_staging (s : State) (i : SlotId) (o : Option Slot) :
    (s.setSlot i o).staging = s.staging := rfl
@[simp] theorem State.setSlot_law (s : State) (i : SlotId) (o : Option Slot) : (s.setSlot i o).law = s.law := rfl
@[simp] theorem State.setSlot_faders (s : State) (i : SlotId) (o : Option Slot) :
    (s.setSlot i o).faders = s.faders := rfl
@[simp] theorem State.setSlot_queue (s : State) (i : SlotId) (o : Option Slot) : (s.setSlot i o).queue = s.queue := rfl
@[simp] theorem State.setSlot_setup (s : State) (i : SlotId) (o : Option Slot) : (s.setSlot i o).setup = s.setup := rfl
@[simp] theorem State.setSlot_cues (s : State) (i : SlotId) (o : Option Slot) : (s.setSlot i o).cues = s.cues := rfl
@[simp] theorem State.setSlot_recalls (s : State) (i : SlotId) (o : Option Slot) :
    (s.setSlot i o).recalls = s.recalls := rfl
@[simp] theorem State.setSlot_engine (s : State) (i : SlotId) (o : Option Slot) :
    (s.setSlot i o).engine = s.engine := rfl
@[simp] theorem State.setSlot_bays (s : State) (i : SlotId) (o : Option Slot) : (s.setSlot i o).bays = s.bays := rfl
@[simp] theorem State.setSlot_completions (s : State) (i : SlotId) (o : Option Slot) :
    (s.setSlot i o).completions = s.completions := rfl
@[simp] theorem State.setSlot_attn (s : State) (i : SlotId) (o : Option Slot) : (s.setSlot i o).attn = s.attn := rfl
@[simp] theorem State.setSlot_early (s : State) (i : SlotId) (o : Option Slot) :
    (s.setSlot i o).early = s.early := rfl
@[simp] theorem State.setSlot_pending (s : State) (i : SlotId) (o : Option Slot) :
    (s.setSlot i o).pending = s.pending := rfl
@[simp] theorem State.setSlot_fader (s : State) (i : SlotId) (o : Option Slot) (q : FaderId) :
    (s.setSlot i o).fader q = s.fader q := rfl
@[simp] theorem State.setSlot_meter (s : State) (i : SlotId) (o : Option Slot) (j : MeterId) :
    (s.setSlot i o).meter j = s.meter j := rfl
@[simp] theorem State.setSlot_bay (s : State) (i : SlotId) (o : Option Slot) (j : BayId) :
    (s.setSlot i o).bay j = s.bay j := rfl
@[simp] theorem State.setSlot_limit (s : State) (i : SlotId) (o : Option Slot) :
    (s.setSlot i o).table.limit = s.table.limit := rfl
@[simp] theorem State.setSlot_nextHold (s : State) (i : SlotId) (o : Option Slot) :
    (s.setSlot i o).table.nextHold = s.table.nextHold := rfl

/-! ### `mapSlots` -/

@[simp] theorem State.mapSlots_bus (s : State) (g : Slot → Slot) : (s.mapSlots g).bus = s.bus := by simp only [State.mapSlots]
@[simp] theorem State.mapSlots_mem (s : State) (g : Slot → Slot) : (s.mapSlots g).mem = s.mem := by simp only [State.mapSlots]
@[simp] theorem State.mapSlots_staging (s : State) (g : Slot → Slot) : (s.mapSlots g).staging = s.staging := by simp only [State.mapSlots]
@[simp] theorem State.mapSlots_law (s : State) (g : Slot → Slot) : (s.mapSlots g).law = s.law := by simp only [State.mapSlots]
@[simp] theorem State.mapSlots_faders (s : State) (g : Slot → Slot) : (s.mapSlots g).faders = s.faders := by simp only [State.mapSlots]
@[simp] theorem State.mapSlots_queue (s : State) (g : Slot → Slot) : (s.mapSlots g).queue = s.queue := by simp only [State.mapSlots]
@[simp] theorem State.mapSlots_setup (s : State) (g : Slot → Slot) : (s.mapSlots g).setup = s.setup := by simp only [State.mapSlots]
@[simp] theorem State.mapSlots_cues (s : State) (g : Slot → Slot) : (s.mapSlots g).cues = s.cues := by simp only [State.mapSlots]
@[simp] theorem State.mapSlots_recalls (s : State) (g : Slot → Slot) : (s.mapSlots g).recalls = s.recalls := by simp only [State.mapSlots]
@[simp] theorem State.mapSlots_engine (s : State) (g : Slot → Slot) : (s.mapSlots g).engine = s.engine := by simp only [State.mapSlots]
@[simp] theorem State.mapSlots_bays (s : State) (g : Slot → Slot) : (s.mapSlots g).bays = s.bays := by simp only [State.mapSlots]
@[simp] theorem State.mapSlots_completions (s : State) (g : Slot → Slot) :
    (s.mapSlots g).completions = s.completions := by simp only [State.mapSlots]
@[simp] theorem State.mapSlots_attn (s : State) (g : Slot → Slot) : (s.mapSlots g).attn = s.attn := by simp only [State.mapSlots]
@[simp] theorem State.mapSlots_early (s : State) (g : Slot → Slot) : (s.mapSlots g).early = s.early := by simp only [State.mapSlots]
@[simp] theorem State.mapSlots_pending (s : State) (g : Slot → Slot) : (s.mapSlots g).pending = s.pending := by simp only [State.mapSlots]
@[simp] theorem State.mapSlots_fader (s : State) (g : Slot → Slot) (q : FaderId) :
    (s.mapSlots g).fader q = s.fader q := by simp only [State.fader, State.mapSlots]
@[simp] theorem State.mapSlots_meter (s : State) (g : Slot → Slot) (j : MeterId) :
    (s.mapSlots g).meter j = s.meter j := by simp only [State.meter, State.mapSlots]
@[simp] theorem State.mapSlots_bay (s : State) (g : Slot → Slot) (j : BayId) : (s.mapSlots g).bay j = s.bay j := by simp only [State.bay, State.mapSlots]
@[simp] theorem State.mapSlots_limit (s : State) (g : Slot → Slot) : (s.mapSlots g).table.limit = s.table.limit := by simp only [State.mapSlots]
@[simp] theorem State.mapSlots_nextHold (s : State) (g : Slot → Slot) :
    (s.mapSlots g).table.nextHold = s.table.nextHold := by simp only [State.mapSlots]

/-! ### `setMeter` -/

@[simp] theorem State.setMeter_bus (s : State) (m : MeterId) (x : Meter) : (s.setMeter m x).bus = s.bus := rfl
@[simp] theorem State.setMeter_mem (s : State) (m : MeterId) (x : Meter) : (s.setMeter m x).mem = s.mem := rfl
@[simp] theorem State.setMeter_staging (s : State) (m : MeterId) (x : Meter) :
    (s.setMeter m x).staging = s.staging := rfl
@[simp] theorem State.setMeter_law (s : State) (m : MeterId) (x : Meter) : (s.setMeter m x).law = s.law := rfl
@[simp] theorem State.setMeter_faders (s : State) (m : MeterId) (x : Meter) : (s.setMeter m x).faders = s.faders := rfl
@[simp] theorem State.setMeter_queue (s : State) (m : MeterId) (x : Meter) : (s.setMeter m x).queue = s.queue := rfl
@[simp] theorem State.setMeter_table (s : State) (m : MeterId) (x : Meter) : (s.setMeter m x).table = s.table := rfl
@[simp] theorem State.setMeter_setup (s : State) (m : MeterId) (x : Meter) : (s.setMeter m x).setup = s.setup := rfl
@[simp] theorem State.setMeter_cues (s : State) (m : MeterId) (x : Meter) : (s.setMeter m x).cues = s.cues := rfl
@[simp] theorem State.setMeter_recalls (s : State) (m : MeterId) (x : Meter) :
    (s.setMeter m x).recalls = s.recalls := rfl
@[simp] theorem State.setMeter_bays (s : State) (m : MeterId) (x : Meter) : (s.setMeter m x).bays = s.bays := rfl
@[simp] theorem State.setMeter_completions (s : State) (m : MeterId) (x : Meter) :
    (s.setMeter m x).completions = s.completions := rfl
@[simp] theorem State.setMeter_attn (s : State) (m : MeterId) (x : Meter) : (s.setMeter m x).attn = s.attn := rfl
@[simp] theorem State.setMeter_early (s : State) (m : MeterId) (x : Meter) :
    (s.setMeter m x).early = s.early := rfl
@[simp] theorem State.setMeter_pending (s : State) (m : MeterId) (x : Meter) :
    (s.setMeter m x).pending = s.pending := rfl
@[simp] theorem State.setMeter_fader (s : State) (m : MeterId) (x : Meter) (q : FaderId) :
    (s.setMeter m x).fader q = s.fader q := rfl
@[simp] theorem State.setMeter_slot (s : State) (m : MeterId) (x : Meter) (j : SlotId) :
    (s.setMeter m x).slot j = s.slot j := rfl
@[simp] theorem State.setMeter_bay (s : State) (m : MeterId) (x : Meter) (j : BayId) :
    (s.setMeter m x).bay j = s.bay j := rfl
@[simp] theorem State.setMeter_scale (s : State) (m : MeterId) (x : Meter) :
    (s.setMeter m x).engine.scale = s.engine.scale := rfl

/-! ### `setBay` -/

@[simp] theorem State.setBay_bus (s : State) (b : BayId) (x : Bay) : (s.setBay b x).bus = s.bus := rfl
@[simp] theorem State.setBay_mem (s : State) (b : BayId) (x : Bay) : (s.setBay b x).mem = s.mem := rfl
@[simp] theorem State.setBay_staging (s : State) (b : BayId) (x : Bay) : (s.setBay b x).staging = s.staging := rfl
@[simp] theorem State.setBay_law (s : State) (b : BayId) (x : Bay) : (s.setBay b x).law = s.law := rfl
@[simp] theorem State.setBay_faders (s : State) (b : BayId) (x : Bay) : (s.setBay b x).faders = s.faders := rfl
@[simp] theorem State.setBay_queue (s : State) (b : BayId) (x : Bay) : (s.setBay b x).queue = s.queue := rfl
@[simp] theorem State.setBay_table (s : State) (b : BayId) (x : Bay) : (s.setBay b x).table = s.table := rfl
@[simp] theorem State.setBay_setup (s : State) (b : BayId) (x : Bay) : (s.setBay b x).setup = s.setup := rfl
@[simp] theorem State.setBay_cues (s : State) (b : BayId) (x : Bay) : (s.setBay b x).cues = s.cues := rfl
@[simp] theorem State.setBay_recalls (s : State) (b : BayId) (x : Bay) : (s.setBay b x).recalls = s.recalls := rfl
@[simp] theorem State.setBay_engine (s : State) (b : BayId) (x : Bay) : (s.setBay b x).engine = s.engine := rfl
@[simp] theorem State.setBay_completions (s : State) (b : BayId) (x : Bay) :
    (s.setBay b x).completions = s.completions := rfl
@[simp] theorem State.setBay_attn (s : State) (b : BayId) (x : Bay) : (s.setBay b x).attn = s.attn := rfl
@[simp] theorem State.setBay_early (s : State) (b : BayId) (x : Bay) : (s.setBay b x).early = s.early := rfl
@[simp] theorem State.setBay_pending (s : State) (b : BayId) (x : Bay) : (s.setBay b x).pending = s.pending := rfl
@[simp] theorem State.setBay_fader (s : State) (b : BayId) (x : Bay) (q : FaderId) :
    (s.setBay b x).fader q = s.fader q := rfl
@[simp] theorem State.setBay_slot (s : State) (b : BayId) (x : Bay) (j : SlotId) :
    (s.setBay b x).slot j = s.slot j := rfl
@[simp] theorem State.setBay_meter (s : State) (b : BayId) (x : Bay) (j : MeterId) :
    (s.setBay b x).meter j = s.meter j := rfl

/-! ### `modBay` -/

@[simp] theorem State.modBay_bus (s : State) (b : BayId) (g : Bay → Bay) : (s.modBay b g).bus = s.bus := rfl
@[simp] theorem State.modBay_mem (s : State) (b : BayId) (g : Bay → Bay) : (s.modBay b g).mem = s.mem := rfl
@[simp] theorem State.modBay_staging (s : State) (b : BayId) (g : Bay → Bay) : (s.modBay b g).staging = s.staging := rfl
@[simp] theorem State.modBay_law (s : State) (b : BayId) (g : Bay → Bay) : (s.modBay b g).law = s.law := rfl
@[simp] theorem State.modBay_faders (s : State) (b : BayId) (g : Bay → Bay) : (s.modBay b g).faders = s.faders := rfl
@[simp] theorem State.modBay_queue (s : State) (b : BayId) (g : Bay → Bay) : (s.modBay b g).queue = s.queue := rfl
@[simp] theorem State.modBay_table (s : State) (b : BayId) (g : Bay → Bay) : (s.modBay b g).table = s.table := rfl
@[simp] theorem State.modBay_setup (s : State) (b : BayId) (g : Bay → Bay) : (s.modBay b g).setup = s.setup := rfl
@[simp] theorem State.modBay_cues (s : State) (b : BayId) (g : Bay → Bay) : (s.modBay b g).cues = s.cues := rfl
@[simp] theorem State.modBay_recalls (s : State) (b : BayId) (g : Bay → Bay) : (s.modBay b g).recalls = s.recalls := rfl
@[simp] theorem State.modBay_engine (s : State) (b : BayId) (g : Bay → Bay) : (s.modBay b g).engine = s.engine := rfl
@[simp] theorem State.modBay_completions (s : State) (b : BayId) (g : Bay → Bay) :
    (s.modBay b g).completions = s.completions := rfl
@[simp] theorem State.modBay_attn (s : State) (b : BayId) (g : Bay → Bay) : (s.modBay b g).attn = s.attn := rfl
@[simp] theorem State.modBay_early (s : State) (b : BayId) (g : Bay → Bay) : (s.modBay b g).early = s.early := rfl
@[simp] theorem State.modBay_pending (s : State) (b : BayId) (g : Bay → Bay) : (s.modBay b g).pending = s.pending := rfl
@[simp] theorem State.modBay_fader (s : State) (b : BayId) (g : Bay → Bay) (q : FaderId) :
    (s.modBay b g).fader q = s.fader q := rfl
@[simp] theorem State.modBay_slot (s : State) (b : BayId) (g : Bay → Bay) (j : SlotId) :
    (s.modBay b g).slot j = s.slot j := rfl
@[simp] theorem State.modBay_meter (s : State) (b : BayId) (g : Bay → Bay) (j : MeterId) :
    (s.modBay b g).meter j = s.meter j := rfl

/-! ### `raise` -/

@[simp] theorem State.raise_bus (s : State) (e : EventSource) : (s.raise e).bus = s.bus := rfl
@[simp] theorem State.raise_mem (s : State) (e : EventSource) : (s.raise e).mem = s.mem := rfl
@[simp] theorem State.raise_staging (s : State) (e : EventSource) : (s.raise e).staging = s.staging := rfl
@[simp] theorem State.raise_law (s : State) (e : EventSource) : (s.raise e).law = s.law := rfl
@[simp] theorem State.raise_faders (s : State) (e : EventSource) : (s.raise e).faders = s.faders := rfl
@[simp] theorem State.raise_queue (s : State) (e : EventSource) : (s.raise e).queue = s.queue := rfl
@[simp] theorem State.raise_table (s : State) (e : EventSource) : (s.raise e).table = s.table := rfl
@[simp] theorem State.raise_setup (s : State) (e : EventSource) : (s.raise e).setup = s.setup := rfl
@[simp] theorem State.raise_cues (s : State) (e : EventSource) : (s.raise e).cues = s.cues := rfl
@[simp] theorem State.raise_recalls (s : State) (e : EventSource) : (s.raise e).recalls = s.recalls := rfl
@[simp] theorem State.raise_engine (s : State) (e : EventSource) : (s.raise e).engine = s.engine := rfl
@[simp] theorem State.raise_bays (s : State) (e : EventSource) : (s.raise e).bays = s.bays := rfl
@[simp] theorem State.raise_completions (s : State) (e : EventSource) : (s.raise e).completions = s.completions := rfl
@[simp] theorem State.raise_early (s : State) (e : EventSource) : (s.raise e).early = s.early := rfl
@[simp] theorem State.raise_pending (s : State) (e : EventSource) : (s.raise e).pending = s.pending := rfl
@[simp] theorem State.raise_fader (s : State) (e : EventSource) (q : FaderId) : (s.raise e).fader q = s.fader q := rfl
@[simp] theorem State.raise_slot (s : State) (e : EventSource) (j : SlotId) : (s.raise e).slot j = s.slot j := rfl
@[simp] theorem State.raise_meter (s : State) (e : EventSource) (j : MeterId) : (s.raise e).meter j = s.meter j := rfl
@[simp] theorem State.raise_bay (s : State) (e : EventSource) (j : BayId) : (s.raise e).bay j = s.bay j := rfl
@[simp] theorem State.raise_levels (s : State) (e : EventSource) : (s.raise e).attn.levels = s.attn.levels := rfl
@[simp] theorem State.raise_threshold (s : State) (e : EventSource) :
    (s.raise e).attn.threshold = s.attn.threshold := rfl
@[simp] theorem State.raise_quiet (s : State) (e : EventSource) : (s.raise e).attn.quiet = s.attn.quiet := rfl
@[simp] theorem State.raise_lastRefusal (s : State) (e : EventSource) :
    (s.raise e).attn.lastRefusal = s.attn.lastRefusal := rfl

/-! ### `refuse` -/

@[simp] theorem State.refuse_bus (s : State) (r : RefusalReason) : (s.refuse r).bus = s.bus := rfl
@[simp] theorem State.refuse_mem (s : State) (r : RefusalReason) : (s.refuse r).mem = s.mem := rfl
@[simp] theorem State.refuse_staging (s : State) (r : RefusalReason) : (s.refuse r).staging = s.staging := rfl
@[simp] theorem State.refuse_law (s : State) (r : RefusalReason) : (s.refuse r).law = s.law := rfl
@[simp] theorem State.refuse_faders (s : State) (r : RefusalReason) : (s.refuse r).faders = s.faders := rfl
@[simp] theorem State.refuse_queue (s : State) (r : RefusalReason) : (s.refuse r).queue = s.queue := rfl
@[simp] theorem State.refuse_table (s : State) (r : RefusalReason) : (s.refuse r).table = s.table := rfl
@[simp] theorem State.refuse_setup (s : State) (r : RefusalReason) : (s.refuse r).setup = s.setup := rfl
@[simp] theorem State.refuse_cues (s : State) (r : RefusalReason) : (s.refuse r).cues = s.cues := rfl
@[simp] theorem State.refuse_recalls (s : State) (r : RefusalReason) : (s.refuse r).recalls = s.recalls := rfl
@[simp] theorem State.refuse_engine (s : State) (r : RefusalReason) : (s.refuse r).engine = s.engine := rfl
@[simp] theorem State.refuse_bays (s : State) (r : RefusalReason) : (s.refuse r).bays = s.bays := rfl
@[simp] theorem State.refuse_completions (s : State) (r : RefusalReason) :
    (s.refuse r).completions = s.completions := rfl
@[simp] theorem State.refuse_early (s : State) (r : RefusalReason) : (s.refuse r).early = s.early := rfl
@[simp] theorem State.refuse_pending (s : State) (r : RefusalReason) : (s.refuse r).pending = s.pending := rfl
@[simp] theorem State.refuse_fader (s : State) (r : RefusalReason) (q : FaderId) :
    (s.refuse r).fader q = s.fader q := rfl
@[simp] theorem State.refuse_slot (s : State) (r : RefusalReason) (j : SlotId) : (s.refuse r).slot j = s.slot j := rfl
@[simp] theorem State.refuse_meter (s : State) (r : RefusalReason) (j : MeterId) :
    (s.refuse r).meter j = s.meter j := rfl
@[simp] theorem State.refuse_bay (s : State) (r : RefusalReason) (j : BayId) : (s.refuse r).bay j = s.bay j := rfl
@[simp] theorem State.refuse_levels (s : State) (r : RefusalReason) : (s.refuse r).attn.levels = s.attn.levels := rfl
@[simp] theorem State.refuse_threshold (s : State) (r : RefusalReason) :
    (s.refuse r).attn.threshold = s.attn.threshold := rfl
@[simp] theorem State.refuse_quiet (s : State) (r : RefusalReason) : (s.refuse r).attn.quiet = s.attn.quiet := rfl

/-! ### `driveAttn` -/

@[simp] theorem State.driveAttn_bus (s : State) : (s.driveAttn).bus = s.bus := rfl
@[simp] theorem State.driveAttn_mem (s : State) : (s.driveAttn).mem = s.mem := rfl
@[simp] theorem State.driveAttn_staging (s : State) : (s.driveAttn).staging = s.staging := rfl
@[simp] theorem State.driveAttn_law (s : State) : (s.driveAttn).law = s.law := rfl
@[simp] theorem State.driveAttn_faders (s : State) : (s.driveAttn).faders = s.faders := rfl
@[simp] theorem State.driveAttn_queue (s : State) : (s.driveAttn).queue = s.queue := rfl
@[simp] theorem State.driveAttn_table (s : State) : (s.driveAttn).table = s.table := rfl
@[simp] theorem State.driveAttn_setup (s : State) : (s.driveAttn).setup = s.setup := rfl
@[simp] theorem State.driveAttn_cues (s : State) : (s.driveAttn).cues = s.cues := rfl
@[simp] theorem State.driveAttn_recalls (s : State) : (s.driveAttn).recalls = s.recalls := rfl
@[simp] theorem State.driveAttn_engine (s : State) : (s.driveAttn).engine = s.engine := rfl
@[simp] theorem State.driveAttn_bays (s : State) : (s.driveAttn).bays = s.bays := rfl
@[simp] theorem State.driveAttn_completions (s : State) : (s.driveAttn).completions = s.completions := rfl
@[simp] theorem State.driveAttn_early (s : State) : (s.driveAttn).early = s.early := rfl
@[simp] theorem State.driveAttn_pending (s : State) : (s.driveAttn).pending = s.pending := rfl
@[simp] theorem State.driveAttn_fader (s : State) (q : FaderId) : (s.driveAttn).fader q = s.fader q := rfl
@[simp] theorem State.driveAttn_slot (s : State) (j : SlotId) : (s.driveAttn).slot j = s.slot j := rfl
@[simp] theorem State.driveAttn_meter (s : State) (j : MeterId) : (s.driveAttn).meter j = s.meter j := rfl
@[simp] theorem State.driveAttn_bay (s : State) (j : BayId) : (s.driveAttn).bay j = s.bay j := rfl
@[simp] theorem State.driveAttn_levels (s : State) : (s.driveAttn).attn.levels = s.attn.levels := rfl
@[simp] theorem State.driveAttn_threshold (s : State) : (s.driveAttn).attn.threshold = s.attn.threshold := rfl
@[simp] theorem State.driveAttn_quiet (s : State) : (s.driveAttn).attn.quiet = s.attn.quiet := rfl
@[simp] theorem State.driveAttn_events (s : State) : (s.driveAttn).attn.events = s.attn.events := rfl
@[simp] theorem State.driveAttn_lastRefusal (s : State) : (s.driveAttn).attn.lastRefusal = s.attn.lastRefusal := rfl

/-! ### `complete` -/

@[simp] theorem State.complete_bus (s : State) (f : FaderId) (o : EndOutcome) (k : SkipCause) (c : ReqClass) (t : Tag) (m : Marks) :
    (s.complete f o k c t m).bus = s.bus := rfl
@[simp] theorem State.complete_mem (s : State) (f : FaderId) (o : EndOutcome) (k : SkipCause) (c : ReqClass) (t : Tag) (m : Marks) :
    (s.complete f o k c t m).mem = s.mem := rfl
@[simp] theorem State.complete_staging (s : State) (f : FaderId) (o : EndOutcome) (k : SkipCause) (c : ReqClass) (t : Tag) (m : Marks) :
    (s.complete f o k c t m).staging = s.staging := rfl
@[simp] theorem State.complete_law (s : State) (f : FaderId) (o : EndOutcome) (k : SkipCause) (c : ReqClass) (t : Tag) (m : Marks) :
    (s.complete f o k c t m).law = s.law := rfl
@[simp] theorem State.complete_faders (s : State) (f : FaderId) (o : EndOutcome) (k : SkipCause) (c : ReqClass) (t : Tag) (m : Marks) :
    (s.complete f o k c t m).faders = s.faders := rfl
@[simp] theorem State.complete_queue (s : State) (f : FaderId) (o : EndOutcome) (k : SkipCause) (c : ReqClass) (t : Tag) (m : Marks) :
    (s.complete f o k c t m).queue = s.queue := rfl
@[simp] theorem State.complete_table (s : State) (f : FaderId) (o : EndOutcome) (k : SkipCause) (c : ReqClass) (t : Tag) (m : Marks) :
    (s.complete f o k c t m).table = s.table := rfl
@[simp] theorem State.complete_setup (s : State) (f : FaderId) (o : EndOutcome) (k : SkipCause) (c : ReqClass) (t : Tag) (m : Marks) :
    (s.complete f o k c t m).setup = s.setup := rfl
@[simp] theorem State.complete_cues (s : State) (f : FaderId) (o : EndOutcome) (k : SkipCause) (c : ReqClass) (t : Tag) (m : Marks) :
    (s.complete f o k c t m).cues = s.cues := rfl
@[simp] theorem State.complete_recalls (s : State) (f : FaderId) (o : EndOutcome) (k : SkipCause) (c : ReqClass) (t : Tag) (m : Marks) :
    (s.complete f o k c t m).recalls = s.recalls := rfl
@[simp] theorem State.complete_engine (s : State) (f : FaderId) (o : EndOutcome) (k : SkipCause) (c : ReqClass) (t : Tag) (m : Marks) :
    (s.complete f o k c t m).engine = s.engine := rfl
@[simp] theorem State.complete_bays (s : State) (f : FaderId) (o : EndOutcome) (k : SkipCause) (c : ReqClass) (t : Tag) (m : Marks) :
    (s.complete f o k c t m).bays = s.bays := rfl
@[simp] theorem State.complete_attn (s : State) (f : FaderId) (o : EndOutcome) (k : SkipCause) (c : ReqClass) (t : Tag) (m : Marks) :
    (s.complete f o k c t m).attn = s.attn := rfl
@[simp] theorem State.complete_early (s : State) (f : FaderId) (o : EndOutcome) (k : SkipCause) (c : ReqClass) (t : Tag) (m : Marks) :
    (s.complete f o k c t m).early = s.early := rfl
@[simp] theorem State.complete_pending (s : State) (f : FaderId) (o : EndOutcome) (k : SkipCause) (c : ReqClass) (t : Tag) (m : Marks) :
    (s.complete f o k c t m).pending = s.pending := rfl
@[simp] theorem State.complete_fader (s : State) (f : FaderId) (o : EndOutcome) (k : SkipCause) (c : ReqClass) (t : Tag) (m : Marks) (q : FaderId) :
    (s.complete f o k c t m).fader q = s.fader q := rfl
@[simp] theorem State.complete_slot (s : State) (f : FaderId) (o : EndOutcome) (k : SkipCause) (c : ReqClass) (t : Tag) (m : Marks) (j : SlotId) :
    (s.complete f o k c t m).slot j = s.slot j := rfl
@[simp] theorem State.complete_meter (s : State) (f : FaderId) (o : EndOutcome) (k : SkipCause) (c : ReqClass) (t : Tag) (m : Marks) (j : MeterId) :
    (s.complete f o k c t m).meter j = s.meter j := rfl
@[simp] theorem State.complete_bay (s : State) (f : FaderId) (o : EndOutcome) (k : SkipCause) (c : ReqClass) (t : Tag) (m : Marks) (j : BayId) :
    (s.complete f o k c t m).bay j = s.bay j := rfl

/-! ### `removeEntry` -/

@[simp] theorem State.removeEntry_bus (s : State) (f : FaderId) : (s.removeEntry f).bus = s.bus := rfl
@[simp] theorem State.removeEntry_mem (s : State) (f : FaderId) : (s.removeEntry f).mem = s.mem := rfl
@[simp] theorem State.removeEntry_staging (s : State) (f : FaderId) : (s.removeEntry f).staging = s.staging := rfl
@[simp] theorem State.removeEntry_law (s : State) (f : FaderId) : (s.removeEntry f).law = s.law := rfl
@[simp] theorem State.removeEntry_faders (s : State) (f : FaderId) : (s.removeEntry f).faders = s.faders := rfl
@[simp] theorem State.removeEntry_table (s : State) (f : FaderId) : (s.removeEntry f).table = s.table := rfl
@[simp] theorem State.removeEntry_setup (s : State) (f : FaderId) : (s.removeEntry f).setup = s.setup := rfl
@[simp] theorem State.removeEntry_cues (s : State) (f : FaderId) : (s.removeEntry f).cues = s.cues := rfl
@[simp] theorem State.removeEntry_recalls (s : State) (f : FaderId) : (s.removeEntry f).recalls = s.recalls := rfl
@[simp] theorem State.removeEntry_engine (s : State) (f : FaderId) : (s.removeEntry f).engine = s.engine := rfl
@[simp] theorem State.removeEntry_bays (s : State) (f : FaderId) : (s.removeEntry f).bays = s.bays := rfl
@[simp] theorem State.removeEntry_completions (s : State) (f : FaderId) :
    (s.removeEntry f).completions = s.completions := rfl
@[simp] theorem State.removeEntry_attn (s : State) (f : FaderId) : (s.removeEntry f).attn = s.attn := rfl
@[simp] theorem State.removeEntry_early (s : State) (f : FaderId) : (s.removeEntry f).early = s.early := rfl
@[simp] theorem State.removeEntry_pending (s : State) (f : FaderId) : (s.removeEntry f).pending = s.pending := rfl
@[simp] theorem State.removeEntry_fader (s : State) (f : FaderId) (q : FaderId) :
    (s.removeEntry f).fader q = s.fader q := rfl
@[simp] theorem State.removeEntry_slot (s : State) (f : FaderId) (j : SlotId) :
    (s.removeEntry f).slot j = s.slot j := rfl
@[simp] theorem State.removeEntry_meter (s : State) (f : FaderId) (j : MeterId) :
    (s.removeEntry f).meter j = s.meter j := rfl
@[simp] theorem State.removeEntry_bay (s : State) (f : FaderId) (j : BayId) : (s.removeEntry f).bay j = s.bay j := rfl
@[simp] theorem State.removeEntry_run (s : State) (f : FaderId) : (s.removeEntry f).queue.run = s.queue.run := rfl
@[simp] theorem State.removeEntry_nextStamp (s : State) (f : FaderId) :
    (s.removeEntry f).queue.nextStamp = s.queue.nextStamp := rfl

/-! ### `replaceEntry` -/

@[simp] theorem State.replaceEntry_bus (s : State) (e : Entry) : (s.replaceEntry e).bus = s.bus := rfl
@[simp] theorem State.replaceEntry_mem (s : State) (e : Entry) : (s.replaceEntry e).mem = s.mem := rfl
@[simp] theorem State.replaceEntry_staging (s : State) (e : Entry) : (s.replaceEntry e).staging = s.staging := rfl
@[simp] theorem State.replaceEntry_law (s : State) (e : Entry) : (s.replaceEntry e).law = s.law := rfl
@[simp] theorem State.replaceEntry_faders (s : State) (e : Entry) : (s.replaceEntry e).faders = s.faders := rfl
@[simp] theorem State.replaceEntry_table (s : State) (e : Entry) : (s.replaceEntry e).table = s.table := rfl
@[simp] theorem State.replaceEntry_setup (s : State) (e : Entry) : (s.replaceEntry e).setup = s.setup := rfl
@[simp] theorem State.replaceEntry_cues (s : State) (e : Entry) : (s.replaceEntry e).cues = s.cues := rfl
@[simp] theorem State.replaceEntry_recalls (s : State) (e : Entry) : (s.replaceEntry e).recalls = s.recalls := rfl
@[simp] theorem State.replaceEntry_engine (s : State) (e : Entry) : (s.replaceEntry e).engine = s.engine := rfl
@[simp] theorem State.replaceEntry_bays (s : State) (e : Entry) : (s.replaceEntry e).bays = s.bays := rfl
@[simp] theorem State.replaceEntry_completions (s : State) (e : Entry) :
    (s.replaceEntry e).completions = s.completions := rfl
@[simp] theorem State.replaceEntry_attn (s : State) (e : Entry) : (s.replaceEntry e).attn = s.attn := rfl
@[simp] theorem State.replaceEntry_early (s : State) (e : Entry) : (s.replaceEntry e).early = s.early := rfl
@[simp] theorem State.replaceEntry_pending (s : State) (e : Entry) : (s.replaceEntry e).pending = s.pending := rfl
@[simp] theorem State.replaceEntry_fader (s : State) (e : Entry) (q : FaderId) :
    (s.replaceEntry e).fader q = s.fader q := rfl
@[simp] theorem State.replaceEntry_slot (s : State) (e : Entry) (j : SlotId) :
    (s.replaceEntry e).slot j = s.slot j := rfl
@[simp] theorem State.replaceEntry_meter (s : State) (e : Entry) (j : MeterId) :
    (s.replaceEntry e).meter j = s.meter j := rfl
@[simp] theorem State.replaceEntry_bay (s : State) (e : Entry) (j : BayId) : (s.replaceEntry e).bay j = s.bay j := rfl
@[simp] theorem State.replaceEntry_run (s : State) (e : Entry) : (s.replaceEntry e).queue.run = s.queue.run := rfl
@[simp] theorem State.replaceEntry_nextStamp (s : State) (e : Entry) :
    (s.replaceEntry e).queue.nextStamp = s.queue.nextStamp := rfl

/-! ### `joinQueue` -/

@[simp] theorem State.joinQueue_bus (s : State) (f : FaderId) (k : EntryKind) (c : ReqClass) (t : Tag) (r : Nat) (m : Marks) :
    (s.joinQueue f k c t r m).bus = s.bus := rfl
@[simp] theorem State.joinQueue_mem (s : State) (f : FaderId) (k : EntryKind) (c : ReqClass) (t : Tag) (r : Nat) (m : Marks) :
    (s.joinQueue f k c t r m).mem = s.mem := rfl
@[simp] theorem State.joinQueue_staging (s : State) (f : FaderId) (k : EntryKind) (c : ReqClass) (t : Tag) (r : Nat) (m : Marks) :
    (s.joinQueue f k c t r m).staging = s.staging := rfl
@[simp] theorem State.joinQueue_law (s : State) (f : FaderId) (k : EntryKind) (c : ReqClass) (t : Tag) (r : Nat) (m : Marks) :
    (s.joinQueue f k c t r m).law = s.law := rfl
@[simp] theorem State.joinQueue_table (s : State) (f : FaderId) (k : EntryKind) (c : ReqClass) (t : Tag) (r : Nat) (m : Marks) :
    (s.joinQueue f k c t r m).table = s.table := rfl
@[simp] theorem State.joinQueue_setup (s : State) (f : FaderId) (k : EntryKind) (c : ReqClass) (t : Tag) (r : Nat) (m : Marks) :
    (s.joinQueue f k c t r m).setup = s.setup := rfl
@[simp] theorem State.joinQueue_cues (s : State) (f : FaderId) (k : EntryKind) (c : ReqClass) (t : Tag) (r : Nat) (m : Marks) :
    (s.joinQueue f k c t r m).cues = s.cues := rfl
@[simp] theorem State.joinQueue_recalls (s : State) (f : FaderId) (k : EntryKind) (c : ReqClass) (t : Tag) (r : Nat) (m : Marks) :
    (s.joinQueue f k c t r m).recalls = s.recalls := rfl
@[simp] theorem State.joinQueue_engine (s : State) (f : FaderId) (k : EntryKind) (c : ReqClass) (t : Tag) (r : Nat) (m : Marks) :
    (s.joinQueue f k c t r m).engine = s.engine := rfl
@[simp] theorem State.joinQueue_bays (s : State) (f : FaderId) (k : EntryKind) (c : ReqClass) (t : Tag) (r : Nat) (m : Marks) :
    (s.joinQueue f k c t r m).bays = s.bays := rfl
@[simp] theorem State.joinQueue_completions (s : State) (f : FaderId) (k : EntryKind) (c : ReqClass) (t : Tag) (r : Nat) (m : Marks) :
    (s.joinQueue f k c t r m).completions = s.completions := rfl
@[simp] theorem State.joinQueue_attn (s : State) (f : FaderId) (k : EntryKind) (c : ReqClass) (t : Tag) (r : Nat) (m : Marks) :
    (s.joinQueue f k c t r m).attn = s.attn := rfl
@[simp] theorem State.joinQueue_early (s : State) (f : FaderId) (k : EntryKind) (c : ReqClass) (t : Tag) (r : Nat) (m : Marks) :
    (s.joinQueue f k c t r m).early = s.early := rfl
@[simp] theorem State.joinQueue_pending (s : State) (f : FaderId) (k : EntryKind) (c : ReqClass) (t : Tag) (r : Nat) (m : Marks) :
    (s.joinQueue f k c t r m).pending = s.pending := rfl
@[simp] theorem State.joinQueue_slot (s : State) (f : FaderId) (k : EntryKind) (c : ReqClass) (t : Tag) (r : Nat) (m : Marks) (j : SlotId) :
    (s.joinQueue f k c t r m).slot j = s.slot j := rfl
@[simp] theorem State.joinQueue_meter (s : State) (f : FaderId) (k : EntryKind) (c : ReqClass) (t : Tag) (r : Nat) (m : Marks) (j : MeterId) :
    (s.joinQueue f k c t r m).meter j = s.meter j := rfl
@[simp] theorem State.joinQueue_bay (s : State) (f : FaderId) (k : EntryKind) (c : ReqClass) (t : Tag) (r : Nat) (m : Marks) (j : BayId) :
    (s.joinQueue f k c t r m).bay j = s.bay j := rfl
@[simp] theorem State.joinQueue_run (s : State) (f : FaderId) (k : EntryKind) (c : ReqClass) (t : Tag) (r : Nat) (m : Marks) :
    (s.joinQueue f k c t r m).queue.run = s.queue.run := rfl

/-! ### Reading what was written -/

@[simp] theorem State.setFader_fader_self (s : State) (f : FaderId) (x : Fader) : (s.setFader f x).fader f = x := by
  simp [State.fader, State.setFader]

theorem State.setFader_fader_ne (s : State) {f g : FaderId} (x : Fader) (h : f ≠ g) :
    (s.setFader f x).fader g = s.fader g := by
  have : (f : Nat) ≠ g := fun e => h (Fin.ext e)
  simp [State.fader, State.setFader, this]

theorem State.setFader_fader (s : State) (f g : FaderId) (x : Fader) :
    (s.setFader f x).fader g = if f = g then x else s.fader g := by
  by_cases h : f = g
  · subst h; simp
  · simp [h, s.setFader_fader_ne x h]

@[simp] theorem State.modFader_fader_self (s : State) (f : FaderId) (g : Fader → Fader) :
    (s.modFader f g).fader f = g (s.fader f) := by
  simp [State.modFader]

theorem State.modFader_fader_ne (s : State) {f h : FaderId} (g : Fader → Fader) (n : f ≠ h) :
    (s.modFader f g).fader h = s.fader h := by
  simp [State.modFader, s.setFader_fader_ne _ n]

theorem State.modFader_fader (s : State) (f h : FaderId) (g : Fader → Fader) :
    (s.modFader f g).fader h = if f = h then g (s.fader h) else s.fader h := by
  by_cases e : f = h
  · subst e; simp
  · simp [e, s.modFader_fader_ne g e]

@[simp] theorem State.mapFaders_fader (s : State) (g : FaderId → Fader → Fader) (f : FaderId) :
    (s.mapFaders g).fader f = g f (s.fader f) := by
  simp [State.fader, State.mapFaders]

@[simp] theorem State.setSlot_slot_self (s : State) (i : SlotId) (o : Option Slot) : (s.setSlot i o).slot i = o := by
  simp [State.slot, State.setSlot]

theorem State.setSlot_slot (s : State) (i j : SlotId) (o : Option Slot) :
    (s.setSlot i o).slot j = if i = j then o else s.slot j := by
  by_cases h : i = j
  · subst h; simp
  · have : (i : Nat) ≠ j := fun e => h (Fin.ext e)
    simp [State.slot, State.setSlot, this, h]

@[simp] theorem State.mapSlots_slot (s : State) (g : Slot → Slot) (i : SlotId) :
    (s.mapSlots g).slot i = (s.slot i).map g := by
  simp [State.slot, State.mapSlots]

@[simp] theorem State.setMeter_meter_self (s : State) (m : MeterId) (x : Meter) : (s.setMeter m x).meter m = x := by
  simp [State.meter, State.setMeter]

theorem State.setMeter_meter (s : State) (m j : MeterId) (x : Meter) :
    (s.setMeter m x).meter j = if m = j then x else s.meter j := by
  by_cases h : m = j
  · subst h; simp
  · have : (m : Nat) ≠ j := fun e => h (Fin.ext e)
    simp [State.meter, State.setMeter, this, h]

@[simp] theorem State.setBay_bay_self (s : State) (b : BayId) (x : Bay) : (s.setBay b x).bay b = x := by
  simp [State.bay, State.setBay]

theorem State.setBay_bay (s : State) (b j : BayId) (x : Bay) :
    (s.setBay b x).bay j = if b = j then x else s.bay j := by
  by_cases h : b = j
  · subst h; simp
  · have : (b : Nat) ≠ j := fun e => h (Fin.ext e)
    simp [State.bay, State.setBay, this, h]

theorem State.modBay_bay (s : State) (b j : BayId) (g : Bay → Bay) :
    (s.modBay b g).bay j = if b = j then g (s.bay j) else s.bay j := by
  by_cases h : b = j
  · subst h; simp [State.modBay]
  · simp [State.modBay, State.setBay_bay, h]

@[simp] theorem State.driveAttn_line (s : State) : s.driveAttn.attn.line = s.attnAsserted := rfl

@[simp] theorem State.driveAttn_asserted (s : State) : s.driveAttn.attnAsserted = s.attnAsserted := rfl

@[simp] theorem State.refuse_lastRefusal (s : State) (r : RefusalReason) : (s.refuse r).attn.lastRefusal = r := rfl

@[simp] theorem EventFlags.get_set_self (e : EventFlags) (src : EventSource) (b : Bool) :
    (e.set src b).get src = b := by
  cases src <;> rfl

theorem EventFlags.get_set_ne (e : EventFlags) {src other : EventSource} (b : Bool) (h : src ≠ other) :
    (e.set src b).get other = e.get other := by
  cases src <;> cases other <;> first | rfl | exact absurd rfl h

end Sys2Proof.Machine
end

