-- ==== Sys2Proof/Laws/Frame.lean ====
section
/-! SUPPORT. The frame of everything that happens to faders: requests, the arbiter, the servo, touch and the ends of service
change fader records, the wait queue's entries, the slots, completions and pending events, and nothing else. One lemma per
operation says so, each assembled from those of the operations it calls. -/

namespace Sys2Proof.Machine

/-- What an action on faders leaves unchanged: the bus, memory, staging copies, gain law, settings, cue list, recall unit,
meters, bays, levels, threshold, quiet interval and last refusal, the run state, the slot limit, what is taken of the
coming frame expiry, and the commands that wait. -/
structure MotionFrame (s t : State) : Prop where
  bus : t.bus = s.bus
  mem : t.mem = s.mem
  staging : t.staging = s.staging
  law : t.law = s.law
  setup : t.setup = s.setup
  cues : t.cues = s.cues
  recalls : t.recalls = s.recalls
  engine : t.engine = s.engine
  bays : t.bays = s.bays
  early : t.early = s.early
  pending : t.pending = s.pending
  run : t.queue.run = s.queue.run
  limit : t.table.limit = s.table.limit
  levels : t.attn.levels = s.attn.levels
  threshold : t.attn.threshold = s.attn.threshold
  quiet : t.attn.quiet = s.attn.quiet
  lastRefusal : t.attn.lastRefusal = s.attn.lastRefusal

namespace MotionFrame

theorem refl (s : State) : MotionFrame s s := by
  constructor <;> rfl

theorem trans {s t u : State} (h : MotionFrame s t) (k : MotionFrame t u) : MotionFrame s u := by
  constructor
  · exact k.bus.trans h.bus
  · exact k.mem.trans h.mem
  · exact k.staging.trans h.staging
  · exact k.law.trans h.law
  · exact k.setup.trans h.setup
  · exact k.cues.trans h.cues
  · exact k.recalls.trans h.recalls
  · exact k.engine.trans h.engine
  · exact k.bays.trans h.bays
  · exact k.early.trans h.early
  · exact k.pending.trans h.pending
  · exact k.run.trans h.run
  · exact k.limit.trans h.limit
  · exact k.levels.trans h.levels
  · exact k.threshold.trans h.threshold
  · exact k.quiet.trans h.quiet
  · exact k.lastRefusal.trans h.lastRefusal

/-! ### Shared operations -/

theorem setFader (s : State) (f : FaderId) (x : Fader) : MotionFrame s (s.setFader f x) := by
  constructor <;> rfl

theorem modFader (s : State) (f : FaderId) (g : Fader → Fader) : MotionFrame s (s.modFader f g) := by
  constructor <;> rfl

theorem mapFaders (s : State) (g : FaderId → Fader → Fader) : MotionFrame s (s.mapFaders g) := by
  constructor <;> simp

theorem setSlot (s : State) (i : SlotId) (o : Option Slot) : MotionFrame s (s.setSlot i o) := by
  constructor <;> rfl

theorem mapSlots (s : State) (g : Slot → Slot) : MotionFrame s (s.mapSlots g) := by
  constructor <;> simp

theorem raise (s : State) (e : EventSource) : MotionFrame s (s.raise e) := by
  constructor <;> rfl

theorem complete (s : State) (f : FaderId) (o : EndOutcome) (k : SkipCause) (c : ReqClass) (t : Tag) (m : Marks) :
    MotionFrame s (s.complete f o k c t m) := by
  constructor <;> rfl

theorem removeEntry (s : State) (f : FaderId) : MotionFrame s (s.removeEntry f) := by
  constructor <;> rfl

theorem replaceEntry (s : State) (e : Entry) : MotionFrame s (s.replaceEntry e) := by
  constructor <;> rfl

theorem joinQueue (s : State) (f : FaderId) (k : EntryKind) (c : ReqClass) (t : Tag) (r : Nat) (m : Marks) :
    MotionFrame s (s.joinQueue f k c t r m) := by
  constructor <;> rfl

theorem refreshPerMille (s : State) (f : FaderId) : MotionFrame s (s.refreshPerMille f) := by
  unfold State.refreshPerMille; exact modFader ..

theorem targetFromPresent (s : State) (f : FaderId) : MotionFrame s (s.targetFromPresent f) := by
  unfold State.targetFromPresent; exact modFader ..

/-! ### Ends of service and the arbiter -/

theorem leaveQueue (s : State) (f : FaderId) (o : EndOutcome) : MotionFrame s (s.leaveQueue f o) := by
  unfold State.leaveQueue
  dsimp only
  split
  · exact refl s
  · exact ((complete ..).trans (removeEntry ..)).trans (modFader ..)

theorem endMove (s : State) (i : SlotId) (sl : Slot) (o : EndOutcome) : MotionFrame s (s.endMove i sl o) :=
  ((complete ..).trans (setSlot ..)).trans (modFader ..)

theorem endHold (s : State) (i : SlotId) (sl : Slot) : MotionFrame s (s.endHold i sl) :=
  (setSlot ..).trans (modFader ..)

theorem endHoldWith (s : State) (i : SlotId) (sl : Slot) (o : EndOutcome) : MotionFrame s (s.endHoldWith i sl o) :=
  (complete ..).trans (endHold ..)

theorem dropHoming (s : State) (i : SlotId) (sl : Slot) : MotionFrame s (s.dropHoming i sl) := by
  unfold State.dropHoming
  split
  · exact (setSlot ..).trans (refreshPerMille ..)
  · exact setSlot ..

theorem endHoming (s : State) (i : SlotId) (sl : Slot) (o : EndOutcome) : MotionFrame s (s.endHoming i sl o) :=
  ((dropHoming ..).trans (complete ..)).trans (modFader ..)

theorem endUse (s : State) (i : SlotId) (sl : Slot) (o : EndOutcome) : MotionFrame s (s.endUse i sl o) := by
  unfold State.endUse
  split
  · exact endMove ..
  · exact endHoldWith ..
  · exact endHoming ..

theorem endService (s : State) (f : FaderId) (o : EndOutcome) : MotionFrame s (s.endService f o) := by
  unfold State.endService
  split
  · exact leaveQueue ..
  all_goals first | exact refl s | (split <;> first | exact refl s | exact endUse ..)

theorem grantTo (s : State) (i : SlotId) (e : Entry) : MotionFrame s (s.grantTo i e) := by
  unfold State.grantTo
  dsimp only
  split <;> exact ((removeEntry ..).trans (setSlot ..)).trans (modFader ..)

/-- A grant (R43) fills the lowest free slot from the head of the queue. -/
theorem grantStep_inv {s t : State} (h : s.grantStep = some t) :
    ∃ e rest i, s.queue.run = .running ∧ s.queue.entries = e :: rest ∧ s.freeSlot? = some i ∧
      s.occupied < s.table.limit ∧ t = s.grantTo i e := by
  unfold State.grantStep at h
  split at h
  · next e rest i h1 h2 h3 =>
    split at h
    · next hlt => exact ⟨e, rest, i, h1, h2, h3, hlt, (Option.some.inj h).symm⟩
    · exact absurd h (by simp)
  · exact absurd h (by simp)

/-- A pre-emption (R45) ends the oldest hold and gives its slot to the head of the queue. -/
theorem preemptStep_inv {s t : State} (h : s.preemptStep = some t) :
    ∃ e rest i sl, s.queue.run = .running ∧ s.queue.entries = e :: rest ∧ s.oldestHold? = some i ∧
      s.table.limit ≤ s.occupied ∧ s.slot i = some sl ∧ t = (s.endHold i sl).grantTo i e := by
  unfold State.preemptStep at h
  split at h
  · next e rest i h1 h2 h3 =>
    split at h
    · next hle =>
      split at h
      · next sl hs => exact ⟨e, rest, i, sl, h1, h2, h3, hle, hs, (Option.some.inj h).symm⟩
      · exact absurd h (by simp)
    · exact absurd h (by simp)
  · exact absurd h (by simp)

/-- One decision of the arbiter is a grant, or a pre-emption where no grant is open. -/
theorem arbiterStep_inv {s t : State} (h : s.arbiterStep = some t) :
    s.grantStep = some t ∨ (s.grantStep = none ∧ s.preemptStep = some t) := by
  unfold State.arbiterStep at h
  split at h
  · next u hu => exact .inl (hu.trans h)
  · next hn => exact .inr ⟨hn, h⟩

theorem arbiterStep {s t : State} (h : s.arbiterStep = some t) : MotionFrame s t := by
  rcases arbiterStep_inv h with h | ⟨-, h⟩
  · obtain ⟨e, rest, i, -, -, -, -, rfl⟩ := grantStep_inv h
    exact grantTo ..
  · obtain ⟨e, rest, i, sl, -, -, -, -, -, rfl⟩ := preemptStep_inv h
    exact (endHold ..).trans (grantTo ..)

theorem arbiterLoop (n : Nat) (s : State) : MotionFrame s (s.arbiterLoop n) := by
  induction n generalizing s with
  | zero => exact refl s
  | succ k ih =>
    unfold State.arbiterLoop
    split
    · exact refl s
    · next t h => exact (arbiterStep h).trans (ih t)

theorem arbitrate (s : State) : MotionFrame s s.arbitrate :=
  arbiterLoop ..

theorem beginHold (s : State) (i : SlotId) (sl : Slot) : MotionFrame s (s.beginHold i sl) := by
  unfold State.beginHold
  dsimp only
  split
  · exact (setSlot ..).trans (modFader ..)
  · constructor <;> rfl

/-! ### Requests -/

theorem acceptHeld (s : State) (r : Request) (c : Conversion) : MotionFrame s (s.acceptHeld r c) := by
  unfold State.acceptHeld
  split
  · exact modFader ..
  · exact modFader ..
  · split
    · exact (complete ..).trans (raise ..)
    · exact refl s

theorem acceptIdle (s : State) (r : Request) : MotionFrame s (s.acceptIdle r) := by
  unfold State.acceptIdle
  dsimp only
  split
  · exact (modFader ..).trans (complete ..)
  · exact ((modFader ..).trans (joinQueue ..)).trans (arbitrate _)

theorem acceptWaiting (s : State) (r : Request) : MotionFrame s (s.acceptWaiting r) := by
  unfold State.acceptWaiting
  dsimp only
  split
  · exact refl s
  · exact ((modFader ..).trans (replaceEntry ..)).trans (arbitrate _)

theorem acceptDriven (s : State) (r : Request) : MotionFrame s (s.acceptDriven r) := by
  unfold State.acceptDriven
  dsimp only
  split
  · exact refl s
  · exact ((modFader ..).trans (setSlot ..)).trans (modFader ..)

theorem acceptHoming (s : State) (r : Request) : MotionFrame s (s.acceptHoming r) := by
  unfold State.acceptHoming
  dsimp only
  split
  · exact refl s
  · exact (setSlot ..).trans (modFader ..)

theorem acceptMotion (s : State) (r : Request) : MotionFrame s (s.acceptMotion r) := by
  unfold State.acceptMotion
  split
  · exact acceptIdle ..
  · exact acceptWaiting ..
  · exact acceptDriven ..
  · exact acceptDriven ..
  · exact acceptHoming ..
  all_goals exact refl s

theorem accept (s : State) (r : Request) : MotionFrame s (s.accept r) := by
  unfold State.accept
  dsimp only
  split
  · exact (modFader ..).trans (acceptHeld ..)
  · split
    · exact (modFader ..).trans (targetFromPresent ..)
    · split
      · exact ((modFader ..).trans (modFader ..)).trans (modFader ..)
      · exact ((modFader ..).trans (modFader ..)).trans (acceptMotion ..)

theorem issueAll (l : List PriorTarget) (tag : Tag) (ramp : Nat) (undo : Bool) (s : State) :
    MotionFrame s (s.issueAll l tag ramp undo) := by
  unfold State.issueAll
  induction l generalizing s with
  | nil => exact refl s
  | cons p rest ih => exact (accept ..).trans (ih _)

/-! ### The servo and homing -/

theorem arrive (s : State) (i : SlotId) (sl : Slot) : MotionFrame s (s.arrive i sl) :=
  (((complete ..).trans (modFader ..)).trans (beginHold ..)).trans (arbitrate _)

theorem homed (s : State) (i : SlotId) (sl : Slot) : MotionFrame s (s.homed i sl) :=
  (((complete ..).trans (modFader ..)).trans (beginHold ..)).trans (arbitrate _)

theorem latchFault (s : State) (f : FaderId) (c : FaultCause) : MotionFrame s (s.latchFault f c) :=
  (modFader ..).trans (raise ..)

theorem stallMove (s : State) (i : SlotId) (sl : Slot) : MotionFrame s (s.stallMove i sl) :=
  (((complete ..).trans (setSlot ..)).trans (latchFault ..)).trans (arbitrate _)

theorem stallPark (s : State) (i : SlotId) (sl : Slot) : MotionFrame s (s.stallPark i sl) :=
  (((complete ..).trans (dropHoming ..)).trans (latchFault ..)).trans (arbitrate _)

theorem failHoming (s : State) (i : SlotId) (sl : Slot) (c : FaultCause) : MotionFrame s (s.failHoming i sl c) :=
  (((dropHoming ..).trans (complete ..)).trans (latchFault ..)).trans (arbitrate _)

theorem serveMove (s : State) (i : SlotId) (sl : Slot) : MotionFrame s (s.serveMove i sl) := by
  unfold State.serveMove
  dsimp only
  split
  · exact (setSlot ..).trans (arrive ..)
  · split
    · split
      · exact (setSlot ..).trans (stallMove ..)
      · exact setSlot ..
    · exact setSlot ..

theorem servePark (s : State) (i : SlotId) (sl : Slot) : MotionFrame s (s.servePark i sl) := by
  unfold State.servePark
  dsimp only
  split
  · exact (setSlot ..).trans (homed ..)
  · split
    · split
      · exact (setSlot ..).trans (stallPark ..)
      · exact setSlot ..
    · exact setSlot ..

theorem serveDown (s : State) (i : SlotId) (sl : Slot) : MotionFrame s (s.serveDown i sl) := by
  unfold State.serveDown
  dsimp only
  split <;> exact setSlot ..

theorem beginPark (s : State) (i : SlotId) (sl : Slot) (l h : Nat) : MotionFrame s (s.beginPark i sl l h) :=
  (setSlot ..).trans (refreshPerMille ..)

theorem serveUp (s : State) (i : SlotId) (sl : Slot) : MotionFrame s (s.serveUp i sl) := by
  unfold State.serveUp
  dsimp only
  split
  · split
    · exact beginPark ..
    · exact failHoming ..
  · exact setSlot ..
  · exact setSlot ..

theorem serveSlot (s : State) (i : SlotId) (sl : Slot) : MotionFrame s (s.serveSlot i sl) := by
  unfold State.serveSlot
  split
  · exact serveMove ..
  · exact setSlot ..
  · split
    · exact serveDown ..
    · exact serveUp ..
    · exact servePark ..

theorem serveFader (s : State) (f : FaderId) (b : Bool) : MotionFrame s (s.serveFader f b) := by
  unfold State.serveFader
  split
  · split
    · exact refl s
    · exact serveSlot ..
  · exact refl s

theorem timeoutMove (s : State) (i : SlotId) (sl : Slot) : MotionFrame s (s.timeoutMove i sl) :=
  (((endMove ..).trans (modFader ..)).trans (raise ..)).trans (arbitrate _)

theorem timeoutPark (s : State) (i : SlotId) (sl : Slot) : MotionFrame s (s.timeoutPark i sl) :=
  ((((complete ..).trans (dropHoming ..)).trans (modFader ..)).trans (raise ..)).trans (arbitrate _)

theorem judgeSlot (s : State) (i : SlotId) : MotionFrame s (s.judgeSlot i) := by
  unfold State.judgeSlot
  split
  · exact refl s
  · split
    · exact timeoutMove ..
    · split
      · exact timeoutPark ..
      · split
        · exact (endHold ..).trans (arbitrate _)
        · split
          · exact failHoming ..
          · exact refl s

/-- A slot event is a decision on the slot, taken once the slot has counted the coming expiry. -/
theorem slotEvent (s : State) (i : SlotId) (due : Slot → Bool) :
    s.slotEvent i due = s ∨ MotionFrame (s.countSlot i) (s.slotEvent i due) := by
  unfold State.slotEvent
  split
  · exact .inl rfl
  · split
    · exact .inr ((setSlot ..).trans (judgeSlot ..))
    · exact .inl rfl

/-! ### Touch -/

theorem abandon (s : State) (f : FaderId) : MotionFrame s (s.abandon f) := by
  unfold State.abandon
  split
  · exact leaveQueue ..
  all_goals first
    | exact refl s
    | (split
       · exact refl s
       · split
         · exact endMove ..
         · exact endHold ..
         · exact endHoming ..)

theorem enterTouched (s : State) (f : FaderId) : MotionFrame s (s.enterTouched f) :=
  ((abandon ..).trans (modFader ..)).trans (arbitrate _)

theorem endReleasing (s : State) (f : FaderId) : MotionFrame s (s.endReleasing f) := by
  unfold State.endReleasing
  dsimp only
  split
  · exact (modFader ..).trans (accept ..)
  · exact (modFader ..).trans (targetFromPresent ..)

theorem enterReleasing (s : State) (f : FaderId) : MotionFrame s (s.enterReleasing f) := by
  unfold State.enterReleasing
  dsimp only
  split
  · exact (modFader ..).trans (endReleasing ..)
  · exact modFader ..

theorem touchFrame (s : State) (f : FaderId) (b : Bool) : MotionFrame s (s.touchFrame f b) := by
  unfold State.touchFrame
  dsimp only
  split
  · split
    · split
      · exact enterTouched ..
      · exact modFader ..
    · exact modFader ..
  · split
    · exact modFader ..
    · split
      · exact enterReleasing ..
      · exact modFader ..
  · split
    · exact modFader ..
    · exact refl s

theorem movedTest (s : State) (f : FaderId) (b : Bool) : MotionFrame s (s.movedTest f b) := by
  unfold State.movedTest
  dsimp only
  split
  · exact modFader ..
  · split
    · exact modFader ..
    · exact refl s

theorem guardEvent (s : State) (f : FaderId) : MotionFrame s (s.guardEvent f) := by
  unfold State.guardEvent
  dsimp only
  split
  · exact endReleasing ..
  · exact refl s

theorem judgeGuard (s : State) (f : FaderId) : MotionFrame s (s.judgeGuard f) := by
  unfold State.judgeGuard
  dsimp only
  split
  · exact endReleasing ..
  · exact refl s

theorem followRaw (s : State) (f : FaderId) (raw : Nat) : MotionFrame s (s.followRaw f raw) := by
  unfold State.followRaw
  split
  · exact refl s
  · exact setSlot ..

theorem takePosition (s : State) (f : FaderId) (raw : Nat) : MotionFrame s (s.takePosition f raw) :=
  (modFader ..).trans (followRaw ..)

theorem loseFader (s : State) (f : FaderId) : MotionFrame s (s.loseFader f) :=
  (endService ..).trans (modFader ..)

theorem enterFader (s : State) (f : FaderId) : MotionFrame s (s.enterFader f) :=
  modFader ..

theorem fireCue (s : State) (c : Cue) (now : BitVec 32) : MotionFrame s (s.fireCue c now) := by
  unfold State.fireCue
  dsimp only
  split
  · exact (complete ..).trans (raise ..)
  · split
    · exact (complete ..).trans (raise ..)
    · split
      · exact (complete ..).trans (raise ..)
      · split
        · exact (raise ..).trans (accept ..)
        · exact accept ..

/-- A fold of actions on faders is one. -/
theorem foldl {α : Type} (act : State → α → State) (h : ∀ (s : State) a, MotionFrame s (act s a)) (l : List α) (s : State) :
    MotionFrame s (l.foldl act s) := by
  induction l generalizing s with
  | nil => exact refl s
  | cons a rest ih => exact (h s a).trans (ih _)

theorem forFitted (b : BayId) (act : State → Position → State) (h : ∀ (s : State) p, MotionFrame s (act s p)) (s : State) :
    MotionFrame s (s.forFitted b act) := by
  unfold State.forFitted
  refine foldl _ (fun t p => ?_) _ s
  split
  · exact h t p
  · exact refl t

end MotionFrame

end Sys2Proof.Machine
end

