-- ==== Sys2Proof/Laws/Memory.lean ====
section
/-! SUPPORT. Memory behind the part: a read after a write, the canonical form that every write keeps, and what a write of
byte lanes leaves. -/

namespace Sys2Proof.Machine

theorem Memory.read_write_self (m : Memory) (a : Nat) (b : Byte) : (m.write a b).read a = some b := by
  induction m with
  | nil => simp [Memory.write, Memory.read]
  | cons c rest ih =>
    simp only [Memory.write]
    split
    · simp [Memory.read]
    · split
      · simp [Memory.read]
      · simp only [Memory.read]
        rw [if_neg (by omega), ih]

theorem Memory.read_write_ne (m : Memory) {a x : Nat} (b : Byte) (h : x ≠ a) : (m.write a b).read x = m.read x := by
  induction m with
  | nil => simp [Memory.write, Memory.read, Ne.symm h]
  | cons c rest ih =>
    simp only [Memory.write]
    split
    · simp [Memory.read, Ne.symm h]
    · split
      · next h1 h2 => subst h2; simp [Memory.read, Ne.symm h]
      · simp [Memory.read, ih]

/-- The addresses of a memory after a write are the old ones and the written one. -/
theorem Memory.mem_write (m : Memory) (a : Nat) (b : Byte) {c : Host.Cell} (h : c ∈ m.write a b) :
    c.1 = a ∨ c ∈ m := by
  induction m with
  | nil => simp only [Memory.write, List.mem_singleton] at h; exact .inl (by rw [h])
  | cons d rest ih =>
    simp only [Memory.write] at h
    split at h
    · rcases List.mem_cons.mp h with h | h
      · exact .inl (by rw [h])
      · exact .inr h
    · split at h
      · rcases List.mem_cons.mp h with h | h
        · exact .inl (by rw [h])
        · exact .inr (List.mem_cons_of_mem _ h)
      · rcases List.mem_cons.mp h with h | h
        · exact .inr (by rw [h]; exact List.mem_cons_self)
        · exact (ih h).imp_right (List.mem_cons_of_mem _)

/-- A write keeps the canonical form. -/
theorem Memory.wf_write {m : Memory} (h : Memory.wf m) (a : Nat) (b : Byte) : Memory.wf (m.write a b) := by
  induction m with
  | nil => simp [Memory.wf, Memory.write]
  | cons c rest ih =>
    obtain ⟨hc, hr⟩ := List.pairwise_cons.mp h
    simp only [Memory.write]
    split
    · next hl =>
      refine List.pairwise_cons.mpr ⟨fun d hd => ?_, h⟩
      rcases List.mem_cons.mp hd with rfl | hd
      · exact hl
      · exact Nat.lt_trans hl (hc d hd)
    · split
      · next he => exact List.pairwise_cons.mpr ⟨fun d hd => he ▸ hc d hd, hr⟩
      · next hl he =>
        refine List.pairwise_cons.mpr ⟨fun d hd => ?_, ih hr⟩
        rcases Memory.mem_write rest a b hd with h1 | h1
        · omega
        · exact hc d h1

theorem Memory.wf_writeLane {m : Memory} (h : Memory.wf m) (a : Nat) (b : Option Byte) :
    Memory.wf (m.writeLane a b) := by
  cases b with
  | none => exact h
  | some x => exact Memory.wf_write h a x

/-- A write of byte lanes keeps the canonical form. -/
theorem Memory.wf_writeLanes {m : Memory} (h : Memory.wf m) (a : Nat) (l : Lanes) :
    Memory.wf (m.writeLanes a l) :=
  Memory.wf_writeLane (Memory.wf_writeLane (Memory.wf_writeLane (Memory.wf_writeLane h _ _) _ _) _ _) _ _

/-- The memory of the state after RESET has the canonical form. -/
theorem reset_mem_wf : Memory.wf State.reset.mem :=
  List.Pairwise.nil

theorem Memory.read_writeLane_self (m : Memory) (a : Nat) (b : Byte) : (m.writeLane a (some b)).read a = some b :=
  Memory.read_write_self m a b

theorem Memory.read_writeLane_ne (m : Memory) {a x : Nat} (b : Option Byte) (h : x ≠ a) :
    (m.writeLane a b).read x = m.read x := by
  cases b with
  | none => rfl
  | some y => exact Memory.read_write_ne m y h

theorem Memory.read_writeLane (m : Memory) (a x : Nat) (b : Option Byte) :
    (m.writeLane a b).read x = if x = a then b.or (m.read x) else m.read x := by
  by_cases h : x = a
  · subst h
    cases b with
    | none => simp [Memory.writeLane]
    | some y => simp [Memory.read_writeLane_self]
  · simp [h, Memory.read_writeLane_ne m b h]

/-- A lane that is not written, or is another byte's, leaves a byte as it was. -/
theorem Memory.read_writeLane_keep (m : Memory) {a x : Nat} {b : Option Byte} (h : x = a → b = none) :
    (m.writeLane a b).read x = m.read x := by
  by_cases e : x = a
  · rw [h e]; rfl
  · exact Memory.read_writeLane_ne m b e

/-- What a write of byte lanes leaves: the written lanes at their addresses, every other byte as before. -/
theorem storesAt_writeLanes (m : Memory) (addr : Nat) (l : Lanes) : storesAt m (m.writeLanes addr l) addr l := by
  obtain ⟨l0, l1, l2, l3⟩ := l
  constructor
  · intro k b hb
    match k with
    | 0 => simp only [laneByte] at hb; subst hb; simp [Memory.writeLanes, Memory.read_writeLane]
    | 1 => simp only [laneByte] at hb; subst hb; simp [Memory.writeLanes, Memory.read_writeLane]
    | 2 => simp only [laneByte] at hb; subst hb; simp [Memory.writeLanes, Memory.read_writeLane]
    | 3 => simp only [laneByte] at hb; subst hb; simp [Memory.writeLanes, Memory.read_writeLane]
    | _ + 4 => simp [laneByte] at hb
  · intro a h
    unfold Memory.writeLanes
    have h0 : a = addr → l0 = none := h 0
    have h1 : a = addr + 1 → l1 = none := h 1
    have h2 : a = addr + 2 → l2 = none := h 2
    have h3 : a = addr + 3 → l3 = none := h 3
    rw [Memory.read_writeLane_keep _ h3, Memory.read_writeLane_keep _ h2, Memory.read_writeLane_keep _ h1,
      Memory.read_writeLane_keep _ h0]

end Sys2Proof.Machine
end

