-- ==== Sys2Proof/Laws/BusPath.lean ====
section
/-! SUPPORT. What a bus command answers, from what its owning block takes: the statements' `State.writes` and
`State.answers` reached from the bus path's operations. -/

namespace Sys2Proof.Machine

/-- A command that stores lanes at a word of the image, and leaves `t` but for memory. -/
theorem State.writes_of_store {s t : State} {c : Instr} {w : ImageWord} {l : Lanes}
    (h : exec c s = (t.store (t.addressOf w) l).done) (hm : t.mem = s.mem) (hb : t.imageBase = s.imageBase) :
    s.writes c w.offset l t := by
  refine ⟨s.mem.writeLanes (s.imageBase + w.offset) l, storesAt_writeLanes _ _ _, ?_⟩
  rw [h]
  simp only [State.done, State.store, State.addressOf, hm, hb]

/-- A write to a command word whose take leaves memory and the image base alone. -/
theorem State.writes_of_pulse {s : State} {c : Instr} {cw : CommandWord} {code : Byte} {u : UpperLanes}
    {take : State → State} (hr : s.bus.inReset = false) (h : exec c s = (s.pulse cw code u take).done)
    (hm : (take s).mem = s.mem) (hb : (take s).imageBase = s.imageBase) :
    s.writes c (ImageWord.command cw).offset (u.withCode code) (take s) := by
  refine State.writes_of_store ?_ hm hb
  rw [h, State.pulse, State.onBus, hr]
  rfl

/-- A write to a setup or target word that is taken and rewritten with a value. -/
theorem State.writes_of_rewrite {s t : State} {c : Instr} {w : ImageWord} {v : Word}
    (h : exec c s = (t.rewrite w v).done) (hm : t.mem = s.mem) (hb : t.imageBase = s.imageBase) :
    s.writes c w.offset (Lanes.full v) t :=
  State.writes_of_store h hm hb

/-- What is taken through the frame of the motion blocks leaves the image base as it is. -/
theorem MotionFrame.imageBase {s t : State} (h : MotionFrame s t) : t.imageBase = s.imageBase := by
  simp only [State.imageBase, h.bus]

/-- A write to a command word whose take is an action of the motion blocks. -/
theorem State.writes_of_motion {s : State} {c : Instr} {cw : CommandWord} {code : Byte} {u : UpperLanes}
    {take : State → State} (hr : s.bus.inReset = false) (h : exec c s = (s.pulse cw code u take).done)
    (hf : MotionFrame s (take s)) :
    s.writes c (ImageWord.command cw).offset (u.withCode code) (take s) :=
  State.writes_of_pulse hr h hf.mem hf.imageBase

/-- While RESET is asserted a write to a named word passes to memory as it was made. -/
theorem State.onBus_reset {s : State} (hr : s.bus.inReset = true) (w : ImageWord) (l : Lanes) (take : State → State) :
    s.onBus w l take = s.passWrite w l := by
  simp [State.onBus, hr]

/-- Outside RESET a write to a named word is taken. -/
theorem State.onBus_live {s : State} (hr : s.bus.inReset = false) (w : ImageWord) (l : Lanes) (take : State → State) :
    s.onBus w l take = take s := by
  simp [State.onBus, hr]

/-- Outside RESET a read returns the part's value where the word is overlaid, and then acts. -/
theorem State.readWord_live {s : State} (hr : s.bus.inReset = false) {w : ImageWord} {v : Word}
    (hv : s.overlay w = some v) (act : State → State) :
    s.readWord w act = act { s with bus := { s.bus with readData := Lanes.full v } } := by
  simp [State.readWord, State.wordData, hr, hv]

end Sys2Proof.Machine
end

