-- ==== Sys2Proof/Laws/Early.lean ====
section
/-! SUPPORT. What event rows have taken of the coming frame expiry and what its drive frames count: the field lemmas of the
updates that record it, and what the firings of an advance do. -/

namespace Sys2Proof.Machine

/-! ### `countSlot` -/

@[simp] theorem State.countSlot_bus (s : State) (i : SlotId) : (s.countSlot i).bus = s.bus := rfl
@[simp] theorem State.countSlot_mem (s : State) (i : SlotId) : (s.countSlot i).mem = s.mem := rfl
@[simp] theorem State.countSlot_staging (s : State) (i : SlotId) : (s.countSlot i).staging = s.staging := rfl
@[simp] theorem State.countSlot_law (s : State) (i : SlotId) : (s.countSlot i).law = s.law := rfl
@[simp] theorem State.countSlot_faders (s : State) (i : SlotId) : (s.countSlot i).faders = s.faders := rfl
@[simp] theorem State.countSlot_queue (s : State) (i : SlotId) : (s.countSlot i).queue = s.queue := rfl
@[simp] theorem State.countSlot_table (s : State) (i : SlotId) : (s.countSlot i).table = s.table := rfl
@[simp] theorem State.countSlot_setup (s : State) (i : SlotId) : (s.countSlot i).setup = s.setup := rfl
@[simp] theorem State.countSlot_cues (s : State) (i : SlotId) : (s.countSlot i).cues = s.cues := rfl
@[simp] theorem State.countSlot_recalls (s : State) (i : SlotId) : (s.countSlot i).recalls = s.recalls := rfl
@[simp] theorem State.countSlot_engine (s : State) (i : SlotId) : (s.countSlot i).engine = s.engine := rfl
@[simp] theorem State.countSlot_bays (s : State) (i : SlotId) : (s.countSlot i).bays = s.bays := rfl
@[simp] theorem State.countSlot_completions (s : State) (i : SlotId) : (s.countSlot i).completions = s.completions := rfl
@[simp] theorem State.countSlot_attn (s : State) (i : SlotId) : (s.countSlot i).attn = s.attn := rfl
@[simp] theorem State.countSlot_pending (s : State) (i : SlotId) : (s.countSlot i).pending = s.pending := rfl

/-! ### `countMeter` -/

@[simp] theorem State.countMeter_bus (s : State) (m : MeterId) : (s.countMeter m).bus = s.bus := rfl
@[simp] theorem State.countMeter_mem (s : State) (m : MeterId) : (s.countMeter m).mem = s.mem := rfl
@[simp] theorem State.countMeter_staging (s : State) (m : MeterId) : (s.countMeter m).staging = s.staging := rfl
@[simp] theorem State.countMeter_law (s : State) (m : MeterId) : (s.countMeter m).law = s.law := rfl
@[simp] theorem State.countMeter_faders (s : State) (m : MeterId) : (s.countMeter m).faders = s.faders := rfl
@[simp] theorem State.countMeter_queue (s : State) (m : MeterId) : (s.countMeter m).queue = s.queue := rfl
@[simp] theorem State.countMeter_table (s : State) (m : MeterId) : (s.countMeter m).table = s.table := rfl
@[simp] theorem State.countMeter_setup (s : State) (m : MeterId) : (s.countMeter m).setup = s.setup := rfl
@[simp] theorem State.countMeter_cues (s : State) (m : MeterId) : (s.countMeter m).cues = s.cues := rfl
@[simp] theorem State.countMeter_recalls (s : State) (m : MeterId) : (s.countMeter m).recalls = s.recalls := rfl
@[simp] theorem State.countMeter_engine (s : State) (m : MeterId) : (s.countMeter m).engine = s.engine := rfl
@[simp] theorem State.countMeter_bays (s : State) (m : MeterId) : (s.countMeter m).bays = s.bays := rfl
@[simp] theorem State.countMeter_completions (s : State) (m : MeterId) : (s.countMeter m).completions = s.completions := rfl
@[simp] theorem State.countMeter_attn (s : State) (m : MeterId) : (s.countMeter m).attn = s.attn := rfl
@[simp] theorem State.countMeter_pending (s : State) (m : MeterId) : (s.countMeter m).pending = s.pending := rfl

/-! ### `setAdvance` -/

@[simp] theorem State.setAdvance_bus (s : State) (a : AdvanceStage) : (s.setAdvance a).bus = s.bus := rfl
@[simp] theorem State.setAdvance_mem (s : State) (a : AdvanceStage) : (s.setAdvance a).mem = s.mem := rfl
@[simp] theorem State.setAdvance_staging (s : State) (a : AdvanceStage) : (s.setAdvance a).staging = s.staging := rfl
@[simp] theorem State.setAdvance_law (s : State) (a : AdvanceStage) : (s.setAdvance a).law = s.law := rfl
@[simp] theorem State.setAdvance_faders (s : State) (a : AdvanceStage) : (s.setAdvance a).faders = s.faders := rfl
@[simp] theorem State.setAdvance_queue (s : State) (a : AdvanceStage) : (s.setAdvance a).queue = s.queue := rfl
@[simp] theorem State.setAdvance_table (s : State) (a : AdvanceStage) : (s.setAdvance a).table = s.table := rfl
@[simp] theorem State.setAdvance_setup (s : State) (a : AdvanceStage) : (s.setAdvance a).setup = s.setup := rfl
@[simp] theorem State.setAdvance_cues (s : State) (a : AdvanceStage) : (s.setAdvance a).cues = s.cues := rfl
@[simp] theorem State.setAdvance_recalls (s : State) (a : AdvanceStage) : (s.setAdvance a).recalls = s.recalls := rfl
@[simp] theorem State.setAdvance_engine (s : State) (a : AdvanceStage) : (s.setAdvance a).engine = s.engine := rfl
@[simp] theorem State.setAdvance_bays (s : State) (a : AdvanceStage) : (s.setAdvance a).bays = s.bays := rfl
@[simp] theorem State.setAdvance_completions (s : State) (a : AdvanceStage) : (s.setAdvance a).completions = s.completions := rfl
@[simp] theorem State.setAdvance_attn (s : State) (a : AdvanceStage) : (s.setAdvance a).attn = s.attn := rfl
@[simp] theorem State.setAdvance_pending (s : State) (a : AdvanceStage) : (s.setAdvance a).pending = s.pending := rfl

/-! ### `endExpiry` -/

@[simp] theorem State.endExpiry_bus (s : State) : s.endExpiry.bus = s.bus := rfl
@[simp] theorem State.endExpiry_mem (s : State) : s.endExpiry.mem = s.mem := rfl
@[simp] theorem State.endExpiry_staging (s : State) : s.endExpiry.staging = s.staging := rfl
@[simp] theorem State.endExpiry_law (s : State) : s.endExpiry.law = s.law := rfl
@[simp] theorem State.endExpiry_faders (s : State) : s.endExpiry.faders = s.faders := rfl
@[simp] theorem State.endExpiry_queue (s : State) : s.endExpiry.queue = s.queue := rfl
@[simp] theorem State.endExpiry_table (s : State) : s.endExpiry.table = s.table := rfl
@[simp] theorem State.endExpiry_setup (s : State) : s.endExpiry.setup = s.setup := rfl
@[simp] theorem State.endExpiry_cues (s : State) : s.endExpiry.cues = s.cues := rfl
@[simp] theorem State.endExpiry_recalls (s : State) : s.endExpiry.recalls = s.recalls := rfl
@[simp] theorem State.endExpiry_engine (s : State) : s.endExpiry.engine = s.engine := rfl
@[simp] theorem State.endExpiry_bays (s : State) : s.endExpiry.bays = s.bays := rfl
@[simp] theorem State.endExpiry_completions (s : State) : s.endExpiry.completions = s.completions := rfl
@[simp] theorem State.endExpiry_attn (s : State) : s.endExpiry.attn = s.attn := rfl
@[simp] theorem State.endExpiry_pending (s : State) : s.endExpiry.pending = s.pending := rfl

/-! ### `tickSurface` -/

@[simp] theorem State.tickSurface_bus (s : State) : s.tickSurface.bus = s.bus := rfl
@[simp] theorem State.tickSurface_mem (s : State) : s.tickSurface.mem = s.mem := rfl
@[simp] theorem State.tickSurface_staging (s : State) : s.tickSurface.staging = s.staging := rfl
@[simp] theorem State.tickSurface_law (s : State) : s.tickSurface.law = s.law := rfl
@[simp] theorem State.tickSurface_faders (s : State) : s.tickSurface.faders = s.faders := rfl
@[simp] theorem State.tickSurface_queue (s : State) : s.tickSurface.queue = s.queue := rfl
@[simp] theorem State.tickSurface_table (s : State) : s.tickSurface.table = s.table := rfl
@[simp] theorem State.tickSurface_setup (s : State) : s.tickSurface.setup = s.setup := rfl
@[simp] theorem State.tickSurface_recalls (s : State) : s.tickSurface.recalls = s.recalls := rfl
@[simp] theorem State.tickSurface_engine (s : State) : s.tickSurface.engine = s.engine := rfl
@[simp] theorem State.tickSurface_bays (s : State) : s.tickSurface.bays = s.bays := rfl
@[simp] theorem State.tickSurface_completions (s : State) : s.tickSurface.completions = s.completions := rfl
@[simp] theorem State.tickSurface_attn (s : State) : s.tickSurface.attn = s.attn := rfl
@[simp] theorem State.tickSurface_early (s : State) : s.tickSurface.early = s.early := rfl
@[simp] theorem State.tickSurface_pending (s : State) : s.tickSurface.pending = s.pending := rfl

/-! ### `countFrame` -/

/-- The count of a drive frame changes what no motion changes in nothing. -/
theorem State.countFrame_frame (s : State) (b : BayId) : MotionFrame s (s.countFrame b) :=
  MotionFrame.mapSlots ..

@[simp] theorem State.countFrame_faders (s : State) (b : BayId) : (s.countFrame b).faders = s.faders := by
  simp [State.countFrame]
@[simp] theorem State.countFrame_queue (s : State) (b : BayId) : (s.countFrame b).queue = s.queue := by
  simp [State.countFrame]
@[simp] theorem State.countFrame_completions (s : State) (b : BayId) : (s.countFrame b).completions = s.completions := by
  simp [State.countFrame]

/-! ### The advance and its cues -/

@[simp] theorem State.endExpiry_early (s : State) : s.endExpiry.early = EarlyShare.none := rfl

@[simp] theorem State.setAdvance_advance (s : State) (a : AdvanceStage) : (s.setAdvance a).early.advance = a := rfl

@[simp] theorem State.tickSurface_surface (s : State) : s.tickSurface.cues.surface = s.cues.surface + 1 := rfl

/-- An advance fires a cue exactly when the part is Running and the cue, in the list, is due at the surface time (R97). -/
theorem State.mem_dueCues {s : State} {c : Cue} :
    c ∈ s.dueCues ↔ s.queue.run = .running ∧ c ∈ s.cues.cues ∧ isDue c.due s.cues.surface = true := by
  unfold State.dueCues
  split <;> simp_all

/-- A firing changes the faders' side of the state as any request does, and of the cue list only the cue it took. -/
theorem State.fireFrom_frame (s : State) (now : BitVec 32) (c : Cue) :
    MotionFrame { s with cues := { s.cues with cues := s.cues.cues.erase c } } (s.fireFrom now c) :=
  MotionFrame.fireCue ..

/-- The state with some cues gone from its list. -/
def State.withoutCues (s : State) (l : List Cue) : State :=
  { s with cues := { s.cues with cues := l.foldl List.erase s.cues.cues } }

/-- Firing a list of cues at one time takes them from the cue list and leaves the rest of what no motion changes as it is. -/
theorem State.fireFrom_foldl (now : BitVec 32) (l : List Cue) (s : State) :
    MotionFrame (s.withoutCues l) (l.foldl (fun t c => t.fireFrom now c) s) := by
  induction l generalizing s with
  | nil => exact MotionFrame.refl _
  | cons c l ih =>
    have h := State.fireFrom_frame s now c
    refine MotionFrame.trans ?_ (ih (s.fireFrom now c))
    have hc : (s.fireFrom now c).cues = { s.cues with cues := s.cues.cues.erase c } := h.cues
    exact { h with cues := by simp [State.withoutCues, hc] }

/-- What the firing of some cues leaves: they are gone from the list, and the rest of what no motion changes is as it was
(R97). -/
theorem State.fireCues_frame (s : State) (l : List Cue) : MotionFrame (s.withoutCues l) (s.fireCues l) :=
  State.fireFrom_foldl ..

/-- What an advance of surface time leaves: the cues that it fired are gone from the list, in Running, and the rest of what no
motion changes is as it was (R87, R97). -/
theorem State.fireDue_frame (s : State) : MotionFrame (s.withoutCues s.dueCues) s.fireDue :=
  State.fireCues_frame ..

/-- Another CUE_FIRING follows exactly when the queue is some sense frames and then one. -/
theorem firingFollows_iff (l : List Instr) :
    firingFollows l = true ↔
      ∃ frames rest, l = frames ++ .cueFiring :: rest ∧ ∀ c ∈ frames, ∃ b bytes, c = .senseFrame b bytes := by
  fun_induction firingFollows l with
  | case1 rest => exact ⟨fun _ => ⟨[], rest, by simp⟩, fun _ => rfl⟩
  | case2 b bytes rest ih =>
    rw [ih]
    constructor
    · rintro ⟨frames, tail, rfl, h⟩
      exact ⟨.senseFrame b bytes :: frames, tail, rfl, by simpa using h⟩
    · rintro ⟨_ | ⟨c, frames⟩, tail, h, hc⟩
      · simp at h
      · simp only [List.cons_append, List.cons.injEq] at h
        exact ⟨frames, tail, h.2, fun d hd => hc d (List.mem_cons_of_mem _ hd)⟩
  | case3 l h1 h2 =>
    refine ⟨by simp, ?_⟩
    rintro ⟨_ | ⟨c, frames⟩, tail, rfl, hc⟩
    · exact absurd rfl (h1 tail)
    · obtain ⟨b, bytes, rfl⟩ := hc c (by simp)
      exact absurd rfl (h2 b bytes _)

end Sys2Proof.Machine
end

