-- ==== Sys2Proof/Laws/Service.lean ====
section
/-! SUPPORT. Which entry and which slot a fader has (R24, R41), and what the end of a fader's service leaves (R28, R35,
R37, R70, R136, R138), said once in the terms the statements use. -/

namespace Sys2Proof.Machine

/-! ### The entry of a fader -/

/-- The entry found for a fader is one of the queue and the fader's own. -/
theorem State.entryFor_some {s : State} {f : FaderId} {e : Entry} (h : s.entryFor f = some e) :
    e ∈ s.queue.entries ∧ e.fader = f :=
  ⟨List.mem_of_find?_eq_some h, by simpa using List.find?_some h⟩

/-- A fader with no entry found has none in the queue. -/
theorem State.entryFor_none {s : State} {f : FaderId} (h : s.entryFor f = none) :
    ∀ e ∈ s.queue.entries, e.fader ≠ f := by
  simpa [State.entryFor] using h

/-- A fader that is not Waiting has no entry. -/
theorem State.no_entry_of_not_waiting {s : State} (hs : s.owned) {f : FaderId} (h : (s.fader f).motion ≠ .waiting) :
    ∀ e ∈ s.queue.entries, e.fader ≠ f :=
  fun e he hf => h (hf ▸ hs.entryWaits e he)

/-! ### The slot of a fader -/

/-- The slot found for a fader is occupied by it. -/
theorem State.slotFor_some {s : State} {f : FaderId} {i : SlotId} {sl : Slot} (h : s.slotFor f = some (i, sl)) :
    s.slot i = some sl ∧ sl.fader = f := by
  obtain ⟨j, -, hj⟩ := List.exists_of_findSome?_eq_some h
  split at hj
  · split at hj
    · cases hj; exact ⟨‹_›, ‹_›⟩
    · cases hj
  · cases hj

/-- A fader with no slot found occupies none. -/
theorem State.slotFor_none {s : State} {f : FaderId} (h : s.slotFor f = none) :
    ∀ i sl, s.slot i = some sl → sl.fader ≠ f := by
  intro i sl hi hf
  have := (List.findSome?_eq_none_iff.mp h) i (List.mem_finRange i)
  simp [hi, hf] at this

/-- The motion state of a fader that occupies a slot is that slot's use. -/
theorem State.motion_of_slot {s : State} (hs : s.owned) {i : SlotId} {sl : Slot} (h : s.slot i = some sl) :
    (s.fader sl.fader).motion = sl.use.motion := by
  simpa [h] using hs.slotMoves i

/-- A fader that is not Moving, Holding or Homing occupies no slot. -/
theorem State.no_slot_of_undriven {s : State} (hs : s.owned) {f : FaderId}
    (h : ∀ u : SlotUse, (s.fader f).motion ≠ u.motion) : ∀ i sl, s.slot i = some sl → sl.fader ≠ f :=
  fun _ sl hi hf => h sl.use (hf ▸ s.motion_of_slot hs hi)

/-- Under the ownership invariant a fader occupies one slot at most. -/
theorem State.slot_unique {s : State} (hs : s.owned) {i j : SlotId} {a b : Slot} (hi : s.slot i = some a)
    (hj : s.slot j = some b) (h : a.fader = b.fader) : i = j := by
  by_contra hne
  rcases hs.oneSlot i j hne with h0 | h1
  · simp [hi] at h0
  · simp [hi, hj, h] at h1

/-- With every slot of a fader dropped, a fader that occupies none leaves the slots as they are. -/
theorem slots_filter_self {v : Vector (Option Slot) 16} {f : FaderId}
    (h : ∀ (i : SlotId) sl, v[i] = some sl → sl.fader ≠ f) :
    v.map (fun o => o.filter fun sl => decide (sl.fader ≠ f)) = v := by
  ext1 i hi
  simp only [Vector.getElem_map]
  cases hv : v[i] with
  | none => rfl
  | some sl => simp [h ⟨i, hi⟩ sl hv]

/-- With every slot of a fader dropped, the one slot it occupies is free and the others are as they were. -/
theorem slots_filter_set {v : Vector (Option Slot) 16} {f : FaderId} {i : SlotId} {sl : Slot} (hi : v[i] = some sl)
    (hf : sl.fader = f) (h : ∀ (j : SlotId) sl', v[j] = some sl' → sl'.fader = f → j = i) :
    v.map (fun o => o.filter fun sl => decide (sl.fader ≠ f)) = v.set i none := by
  ext1 j hj
  simp only [Vector.getElem_map, Vector.getElem_set]
  by_cases hij : i.val = j
  · subst hij
    have : v[i.val] = some sl := hi
    simp [this, hf]
  · simp only [if_neg hij]
    cases hv : v[j] with
    | none => rfl
    | some sl' =>
      have : sl'.fader ≠ f := fun he => hij (congrArg Fin.val (h ⟨j, hj⟩ sl' hv he)).symm
      simp [this]

/-! ### The end of a fader's service -/

/-- A fader that nothing serves is left as it is. -/
theorem State.serviceEnded_free {s : State} (hs : s.owned) {f : FaderId} (o : EndOutcome)
    (h : (s.fader f).motion.free = true) : s.serviceEnded f o = s := by
  have hw : (s.fader f).motion ≠ .waiting := by intro e; simp [e, MotionState.free] at h
  have hu : ∀ u : SlotUse, (s.fader f).motion ≠ u.motion := by
    intro u e; cases u <;> simp [e, SlotUse.motion, MotionState.free] at h
  have h1 : s.queue.entries.filter (fun e => decide (e.fader ≠ f)) = s.queue.entries :=
    List.filter_eq_self.mpr fun e he => by simpa using s.no_entry_of_not_waiting hs hw e he
  have h2 := slots_filter_self (v := s.table.slots) (f := f) (s.no_slot_of_undriven hs hu)
  have h3 : (s.fader f).afterEnd (s.unparkedPerMille f) = s.fader f := by
    unfold Fader.afterEnd; cases hm : (s.fader f).motion <;> simp_all [MotionState.free]
  have h4 : s.serviceRecord f o = none := by
    unfold State.serviceRecord; cases hm : (s.fader f).motion <;> simp_all [MotionState.free]
  have h5 : s.faders.set f (s.fader f) = s.faders := Vector.set_getElem_self _
  simp only [State.serviceEnded, h1, h2, h3, h4, h5]

/-- Under the ownership invariant a Moving, Holding or Homing fader has a slot of that use, the only one it occupies, and
no entry. -/
theorem State.driven_slot {s : State} (hs : s.owned) {f : FaderId}
    (hm : (s.fader f).motion = .moving ∨ (s.fader f).motion = .holding ∨ (s.fader f).motion = .homing) :
    ∃ i sl, s.slotFor f = some (i, sl) ∧ s.slot i = some sl ∧ sl.fader = f ∧ (s.fader f).motion = sl.use.motion ∧
      s.table.slots.map (fun o => o.filter fun sl => decide (sl.fader ≠ f)) = s.table.slots.set i none ∧
      s.queue.entries.filter (fun e => decide (e.fader ≠ f)) = s.queue.entries := by
  obtain ⟨⟨i, sl⟩, hsl⟩ : ∃ p, s.slotFor f = some p := by
    cases hf : s.slotFor f with
    | some p => exact ⟨p, rfl⟩
    | none =>
      obtain ⟨i, hi⟩ := hs.movingHasSlot f hm
      obtain ⟨sl, h1, h2⟩ := Option.map_eq_some_iff.mp hi
      exact absurd h2 (s.slotFor_none hf i sl h1)
  obtain ⟨hi, hf⟩ := s.slotFor_some hsl
  refine ⟨i, sl, hsl, hi, hf, hf ▸ s.motion_of_slot hs hi, ?_, ?_⟩
  · exact slots_filter_set hi hf fun j sl' hj hj' => s.slot_unique hs hj hi (hj'.trans hf.symm)
  · refine List.filter_eq_self.mpr fun e he => ?_
    have : (s.fader f).motion ≠ .waiting := by rcases hm with h | h | h <;> simp [h]
    simpa using s.no_entry_of_not_waiting hs this e he

/-- Under the ownership invariant the operation that ends a fader's service leaves exactly the state of
`State.serviceEnded`. -/
theorem State.endService_eq {s : State} (hs : s.owned) (f : FaderId) (o : EndOutcome) :
    s.endService f o = s.serviceEnded f o := by
  by_cases hfree : (s.fader f).motion.free = true
  · rw [s.serviceEnded_free hs o hfree]
    unfold State.endService
    cases hm : (s.fader f).motion <;> simp [hm, MotionState.free] at hfree <;> rfl
  by_cases hm : (s.fader f).motion = .waiting
  · obtain ⟨e, he⟩ : ∃ e, s.entryFor f = some e := by
      cases hf : s.entryFor f with
      | some e => exact ⟨e, rfl⟩
      | none =>
        obtain ⟨e, he, hef⟩ := List.mem_map.mp (hs.waitingHasEntry f hm)
        exact absurd hef (s.entryFor_none hf e he)
    have h2 := slots_filter_self (v := s.table.slots) (f := f)
      (s.no_slot_of_undriven hs fun u h => by cases u <;> simp [hm, SlotUse.motion] at h)
    simp only [State.endService, State.serviceEnded, State.leaveQueue, he, State.serviceRecord, Fader.afterEnd, hm, h2,
      Option.map_some]
    rfl
  have hd : (s.fader f).motion = .moving ∨ (s.fader f).motion = .holding ∨ (s.fader f).motion = .homing := by
    cases h : (s.fader f).motion <;> simp [h, MotionState.free] at hfree hm ⊢
  obtain ⟨i, sl, hsl, hi, rfl, hu, h2, hq⟩ := s.driven_slot hs hd
  cases hus : sl.use with
  | moving =>
    have hm' : (s.fader sl.fader).motion = .moving := by rw [hu, hus]; rfl
    simp only [State.endService, State.serviceEnded, hm', hsl, State.endUse, hus, State.serviceRecord, Fader.afterEnd, h2,
      hq, Option.map_some]
    rfl
  | holding =>
    have hm' : (s.fader sl.fader).motion = .holding := by rw [hu, hus]; rfl
    simp only [State.endService, State.serviceEnded, hm', hsl, State.endUse, hus, State.serviceRecord, Fader.afterEnd, h2,
      hq, Option.map_some]
    rfl
  | homing =>
    have hm' : (s.fader sl.fader).motion = .homing := by rw [hu, hus]; rfl
    have hnone : (s.setSlot i none).slotFor sl.fader = none := by
      refine List.findSome?_eq_none_iff.mpr fun j _ => ?_
      have hj : (s.setSlot i none).slot j = if i.val = j.val then none else s.slot j := by
        simp [State.slot, State.setSlot, Vector.getElem_set]
      rw [hj]
      by_cases hij : i.val = j.val
      · simp [hij]
      · simp only [if_neg hij]
        cases hjs : s.slot j with
        | none => rfl
        | some b => exact if_neg fun hb => hij (congrArg Fin.val (s.slot_unique hs hi hjs hb.symm))
    simp only [State.endService, State.serviceEnded, hm', hsl, State.endUse, hus, State.serviceRecord, Fader.afterEnd, h2,
      hq, Option.map_some, State.endHoming, State.dropHoming, State.unparkedPerMille, true_and]
    by_cases hp : sl.phase = .park
    · simp only [if_pos hp, State.refreshPerMille, State.calInForce, hnone]
      simp [State.complete, State.modFader, State.setFader, State.fader, State.setSlot]
    · simp only [if_neg hp]
      rfl

/-! ### Ending a service keeps the ownership invariant -/

/-- The motion state from a calibration record is one in which nothing serves the fader. -/
theorem Calibration.motion_free (c : Calibration) : c.motion.free = true := by
  unfold Calibration.motion; split <;> [rfl; (split <;> rfl)]

/-- A fader whose service has ended is served by nothing. -/
theorem Fader.afterEnd_free (x : Fader) (p : Nat) : (x.afterEnd p).motion.free = true := by
  unfold Fader.afterEnd
  split <;> first | exact Calibration.motion_free _ | rfl | (next h => rw [h]; rfl)

@[simp] theorem State.serviceEnded_fader_self (s : State) (f : FaderId) (o : EndOutcome) :
    (s.serviceEnded f o).fader f = (s.fader f).afterEnd (s.unparkedPerMille f) := by
  simp [State.serviceEnded, State.fader]

theorem State.serviceEnded_fader_ne (s : State) {f g : FaderId} (o : EndOutcome) (h : g ≠ f) :
    (s.serviceEnded f o).fader g = s.fader g := by
  have : f.val ≠ g.val := fun e => h (Fin.ext e.symm)
  simp [State.serviceEnded, State.fader, this]

@[simp] theorem State.serviceEnded_slot (s : State) (f : FaderId) (o : EndOutcome) (i : SlotId) :
    (s.serviceEnded f o).slot i = (s.slot i).filter fun sl => decide (sl.fader ≠ f) := by
  simp [State.serviceEnded, State.slot]

@[simp] theorem State.serviceEnded_entries (s : State) (f : FaderId) (o : EndOutcome) :
    (s.serviceEnded f o).queue.entries = s.queue.entries.filter fun e => decide (e.fader ≠ f) := rfl

/-- A slot that is occupied after a fader's service has ended was so before, by another fader. -/
theorem State.serviceEnded_slot_some {s : State} {f : FaderId} {o : EndOutcome} {i : SlotId} {sl : Slot} :
    (s.serviceEnded f o).slot i = some sl ↔ s.slot i = some sl ∧ sl.fader ≠ f := by
  rw [s.serviceEnded_slot, Option.filter_eq_some_iff]
  simp

/-- Changing the record of a fader that is served by nothing, to one that is served by nothing, keeps the ownership
invariant. -/
theorem State.owned_setFader {s : State} (hs : s.owned) {f : FaderId} {x : Fader} (h0 : (s.fader f).motion.free = true)
    (h1 : x.motion.free = true) : (s.setFader f x).owned := by
  have hself : (s.setFader f x).fader f = x := by simp [State.setFader, State.fader]
  have hne : ∀ g, g ≠ f → (s.setFader f x).fader g = s.fader g := by
    intro g hg
    have : f.val ≠ g.val := fun e => hg (Fin.ext e.symm)
    simp [State.setFader, State.fader, this]
  have hslot : ∀ i sl, s.slot i = some sl → sl.fader ≠ f := fun i sl hi hf => by
    have := s.motion_of_slot hs hi
    rw [hf] at this
    rw [this] at h0
    cases hu : sl.use <;> simp [hu, SlotUse.motion, MotionState.free] at h0
  refine ⟨hs.oneEntry, ?_, ?_, ?_, hs.oneSlot, ?_⟩
  · intro e he
    have hef : e.fader ≠ f := fun hf => by
      have := hs.entryWaits e he
      rw [hf] at this
      simp [this, MotionState.free] at h0
    rw [hne _ hef]; exact hs.entryWaits e he
  · intro g hg
    have hgf : g ≠ f := fun e => by rw [e, hself] at hg; simp [hg, MotionState.free] at h1
    rw [hne _ hgf] at hg
    exact hs.waitingHasEntry g hg
  · intro i
    show ((s.slot i).all _) = true
    cases hi : s.slot i with
    | none => rfl
    | some sl =>
      have := s.motion_of_slot hs hi
      simp [hne _ (hslot i sl hi), this]
  · intro g hg
    have hgf : g ≠ f := fun e => by rw [e, hself] at hg; rcases hg with h | h | h <;> simp [h, MotionState.free] at h1
    rw [hne _ hgf] at hg
    exact hs.movingHasSlot g hg

/-- Ending a fader's service keeps the ownership invariant. -/
theorem State.owned_serviceEnded {s : State} (hs : s.owned) (f : FaderId) (o : EndOutcome) : (s.serviceEnded f o).owned := by
  have hfree := Fader.afterEnd_free (s.fader f) (s.unparkedPerMille f)
  refine ⟨?_, ?_, ?_, ?_, ?_, ?_⟩
  · exact hs.oneEntry.sublist (List.Sublist.map _ List.filter_sublist)
  · intro e he
    obtain ⟨he, hef⟩ := List.mem_filter.mp he
    rw [s.serviceEnded_fader_ne o (by simpa using hef)]
    exact hs.entryWaits e he
  · intro g hg
    have hgf : g ≠ f := fun e => by rw [e, s.serviceEnded_fader_self] at hg; simp [hg, MotionState.free] at hfree
    rw [s.serviceEnded_fader_ne o hgf] at hg
    obtain ⟨e, he, hef⟩ := List.mem_map.mp (hs.waitingHasEntry g hg)
    exact List.mem_map.mpr ⟨e, List.mem_filter.mpr ⟨he, by simp [hef, hgf]⟩, hef⟩
  · intro i
    cases hi : (s.serviceEnded f o).slot i with
    | none => rfl
    | some sl =>
      obtain ⟨h1, h2⟩ := State.serviceEnded_slot_some.mp hi
      simp [s.serviceEnded_fader_ne o h2, s.motion_of_slot hs h1]
  · intro i j hij
    cases hi : (s.serviceEnded f o).slot i with
    | none => exact .inl rfl
    | some a =>
      refine .inr fun h => ?_
      obtain ⟨h1, -⟩ := State.serviceEnded_slot_some.mp hi
      cases hj : (s.serviceEnded f o).slot j with
      | none => simp [hj] at h
      | some b =>
        obtain ⟨h3, -⟩ := State.serviceEnded_slot_some.mp hj
        exact hij (s.slot_unique hs h1 h3 (by simpa [hj] using h))
  · intro g hg
    have hgf : g ≠ f := fun e => by
      rw [e, s.serviceEnded_fader_self] at hg
      rcases hg with h | h | h <;> simp [h, MotionState.free] at hfree
    rw [s.serviceEnded_fader_ne o hgf] at hg
    obtain ⟨i, hi⟩ := hs.movingHasSlot g hg
    obtain ⟨sl, h1, h2⟩ := Option.map_eq_some_iff.mp hi
    exact ⟨i, by rw [State.serviceEnded_slot_some.mpr ⟨h1, h2 ▸ hgf⟩]; exact congrArg some h2⟩

end Sys2Proof.Machine
end

