-- ==== Sys2Proof/Tests/Slice0.lean ====
section
/-! SUPPORT. The model's own tests: ill-formed commands that WellFormed refuses, figures and sequences that the spec works
out, and for every statement with hypotheses a concrete state and operands that meet them. -/

namespace Sys2Proof.Tests

-- The tests are checked one after the other, so that few are in memory at once.
set_option Elab.async false

open Sys2Proof.Machine

/-! ### WellFormed refuses the ill-formed -/

/-- No upper lane written. -/
def noUpper : UpperLanes := ⟨none, none, none⟩

theorem test_wf_refuses_no_lanes : (Instr.targetWrite 0 noData).wellFormed = false := by decide
theorem test_wf_refuses_unaligned : (Instr.wordWrite 0x1002 (Lanes.full 0)).wellFormed = false := by decide
theorem test_wf_refuses_short_frame : (Instr.senseFrame 0 [0xE6, 0, 0]).wellFormed = false := by decide
theorem test_wf_refuses_acknowledge_0 : (Instr.acknowledge 0 noUpper).wellFormed = false := by decide
theorem test_wf_refuses_acknowledge_11 : (Instr.acknowledge 11 noUpper).wellFormed = false := by decide
theorem test_wf_refuses_listed_code : (Instr.unknownCommand .cueArm 0x5A noUpper).wellFormed = false := by decide
theorem test_wf_refuses_no_command_code : (Instr.unknownCommand .runControl 0 noUpper).wellFormed = false := by decide

/-- No row of the table gives bits, so no word spells a command. -/
theorem test_no_word_spells_a_command : decodeTableWord 32 0x5A = none := by decide

/-! ### States to test on -/

/-- The calibration of the spec's worked figures (section 1.3). -/
def worked : Calibration := ⟨180, 3920, true, false, .none⟩

/-- A fitted fader with that calibration. -/
def strip (m : MotionState) (raw : Nat) : Fader :=
  { Fader.reset with motion := m, raw := raw, perMille := perMilleOfRaw 180 3920 raw, stale := false, cal := worked }

/-- The faders of the desk, by number. -/
def deskFader (f : FaderId) : Fader :=
  match f.val with
  | 0 => { strip .idle 2985 with targetGain := .cdb 0, targetPos := 750, groups := 4 }
  | 1 => { strip .waiting 180 with targetGain := .cdb (-1234), targetPos := 503 }
  | 2 => { strip .moving 180 with targetGain := .cdb (-1234), targetPos := 503 }
  | 3 => { strip .holding 2061 with targetGain := .cdb (-1234), targetPos := 503 }
  | 4 => { strip .homing 1000 with cls := .home }
  | 5 => { strip .homing 2061 with cls := .home, targetPos := 503, cal := Calibration.reset }
  | 6 => { strip .faulted 180 with cal := ⟨180, 3920, true, true, .stall⟩ }
  | 7 => { strip .unhomed 180 with cal := Calibration.reset, perMille := perMilleOfRaw 0 4095 180 }
  | 8 => { strip .idle 1010 with touch := .touched }
  | 9 =>
    let p : PendingTarget := ⟨.cdb (-750), .cue, 40, 0, ⟨false, false⟩⟩
    { strip .idle 1010 with touch := .releasing, guardTimer := 1, mode := .follow, pendingTarget := some p }
  | 10 => { strip .idle 1010 with touch := .touched, mode := .latch, latched := true, groups := 8, releaseRun := 2 }
  | 11 => { strip .idle 1010 with inhibit := true }
  | 12 => { strip .idle 1010 with latched := true, touchRun := 1 }
  | 13 | 14 | 15 => strip .idle 180
  | _ => Fader.reset

/-- A slot with nothing but what every use has. -/
def plainSlot (f : FaderId) (u : SlotUse) (ph : HomingPhase) : Slot :=
  ⟨f, u, ph, .direct, 0, ⟨false, false⟩, 0, 2061, 2061, 40, 0, 0, 0, none, 0, 0, 0, 0, 0, none, none, none, 1⟩

/-- The slots of the desk: a move, a hold, a homing in Down and one in Park. -/
def deskSlot (i : SlotId) : Option Slot :=
  match i.val with
  | 0 => some { plainSlot 2 .moving .down with setpoint := 180, age := 2000 }
  | 1 => some { plainSlot 3 .holding .down with holdTimer := 1 }
  | 2 => some { plainSlot 4 .homing .down with cls := .home, phaseAge := 1500 }
  | 3 => some { plainSlot 5 .homing .park with
    cls := .home, settle := 2, age := 2000, foundLow := some 180, foundHigh := some 3920 }
  | _ => none

/-- A bay that answers its links. -/
def answering : Bay := { Bay.reset with state := .present, fitted := 0xFF, window := .opened, seq := 7 }

/-- Two bays Present, the others in each other state. -/
def deskBay (b : BayId) : Bay :=
  match b.val with
  | 0 | 1 => answering
  | 2 => { Bay.reset with state := .joining, joinRun := 7, window := .opened, seq := 7 }
  | 3 => { Bay.reset with state := .lost, window := .opened, seq := 7 }
  | 4 => { Bay.reset with window := .opened, seq := 7 }
  | _ => Bay.reset

/-- A desk in use, with a fader in every state and an entry in the wait queue. -/
def desk : State :=
  { State.reset with
    bus := { BusPath.reset with inReset := false }
    faders := Vector.ofFn deskFader
    table := { slots := Vector.ofFn deskSlot, limit := 16, nextHold := 1 }
    queue := { run := .running, entries := [⟨1, .move, .direct, 0, 0, ⟨false, false⟩, 0⟩], nextStamp := 1 }
    bays := Vector.ofFn deskBay }

/-- The desk with no request in its queue, and with nothing for the arbiter to do. -/
def calm : State :=
  { desk with
    queue := { desk.queue with entries := [] }
    faders := desk.faders.set 1 (strip .idle 180) }

/-- The desk while Stopped. -/
def deskStopped : State := { desk with queue := { desk.queue with run := .stopped } }

/-- A state with one fader replaced. -/
def withFader (s : State) (f : FaderId) (x : Fader) : State := { s with faders := s.faders.set f x }

/-- The desk with one slot replaced. -/
def withSlot (i : SlotId) (sl : Slot) : State :=
  { desk with table := { desk.table with slots := desk.table.slots.set i (some sl) } }

/-- A sense frame for echo 7 with every fader fitted at one raw position and touch bit, and a supply report. -/
def frameOf (raw : Nat) (touch supply : Bool) : List Byte :=
  let lo : Byte := BitVec.ofNat 8 raw
  let hi : Byte := BitVec.ofNat 8 (raw / 256 + 0x20 + if touch then 0x10 else 0)
  let body : List Byte := 7 :: (List.replicate 8 [lo, hi]).flatten ++ [if supply then 1 else 0]
  0xE6 :: body ++ [0 - body.foldl (· + ·) 0]

/-- Lanes 0 and 1 of a 16-bit number. -/
def half (z : Int) : Lanes :=
  let v : Word := putInt 0 16 z
  ⟨some (laneOf v 0), some (laneOf v 1), none, none⟩

/-- What a command leaves, to look at. -/
def after {α : Type} (c : Instr) (s : State) (look : State → α) : Option α :=
  match exec c s with
  | .next t => some (look t)
  | _ => none

/-- What a list of commands leaves, one after the other. -/
def afterAll {α : Type} (cs : List Instr) (s : State) (look : State → α) : Option α :=
  match cs with
  | [] => some (look s)
  | c :: rest =>
    match exec c s with
    | .next t => afterAll rest t look
    | _ => none

/-! ### Figures the spec works out -/

/-- Section 1.3: -12.34 dB gives 503. -/
theorem test_convert_down : convertGain State.reset.law.taper (.cdb (-1234)) = ⟨.cdb (-1234), 503, false, false⟩ := by
  decide +kernel

/-- Section 1.3: +1.30 dB gives 783 with rounded-up set. -/
theorem test_convert_half_up : convertGain State.reset.law.taper (.cdb 130) = ⟨.cdb 130, 783, false, true⟩ := by
  decide +kernel

/-- Section 1.3: +14.00 dB is lowered to the ceiling. -/
theorem test_convert_clamps : convertGain State.reset.law.taper (.cdb 1400) = ⟨.cdb 1000, 1000, true, false⟩ := by
  decide +kernel

/-- Section 1.3: per-mille 503, 783, 30, 5 and 3 read -12.35 dB, +1.32 dB, -75.00 dB, -87.50 dB and Off. -/
theorem test_present_gains : [503, 783, 30, 5, 3].map (gainOfPerMille State.reset.law) =
    [.cdb (-1235), .cdb 132, .cdb (-7500), .cdb (-8750), .off] := by decide +kernel

/-- Section 1.3: the raw mapping of 180..3920. -/
theorem test_raw_mapping : rawOfPerMille 180 3920 503 = 2061 ∧ rawOfPerMille 180 3920 783 = 3108 ∧
    perMilleOfRaw 180 3920 2061 = 503 := by decide +kernel

/-- Section 3.4: drives of the worked move; section 3.5: a saturated one. -/
theorem test_drives : (driveFor FaderSetup.default 260 205, driveFor FaderSetup.default 2061 2058,
    driveFor FaderSetup.default 580 500, driveFor FaderSetup.default 205 260) = (82, 0, 100, -82) := by decide +kernel

/-- Section 3.4: the step of the supersede, 2128 / 200 rounded upward. -/
theorem test_step : stepFor 980 3108 200 40 = 11 ∧ stepFor 180 2061 200 40 = 10 := by decide +kernel

/-- Section 6.1: a cue due at 5 has lead +15 at surface time 2^32 - 10. -/
theorem test_lead_wraps : leadOf 5 (0 - 10) = 15 ∧ leadOf 0x80000000 0 = 2147483648 := by decide +kernel

/-- Section 12.8: a drive frame of sequence 0x11 and zeros has check byte 0xEF. -/
theorem test_check_byte : (DriveFrame.bytes ⟨0x11, Vector.replicate 8 ⟨false, 0⟩, Vector.replicate 8 ⟨0, 0, false⟩⟩)[34]? =
    some 0xEF := by decide +kernel

/-- Section 3.4: the write of -12.34 dB is granted the lowest free slot with target raw 2061, setpoint 180 and step 40. -/
theorem test_write_is_granted : after (.targetWrite 13 (half (-1234))) calm (fun t =>
    (t.slot 4).map fun sl => (sl.fader, sl.targetRaw, sl.setpoint, sl.step)) = some (some (13, 2061, 180, 40)) := by
  decide +kernel

/-- Section 11.7: a deadband lane of 90 is taken as 64, which memory receives. -/
theorem test_deadband_is_clamped : after (.setupWrite (.faderA 12) ⟨some 90, none, none, none⟩) desk (fun t =>
    ((t.fader 12).setup.deadband, (t.fader 12).setup.slewLimit, Memory.read t.mem 0x1334)) = some (64, 40, some 64) := by
  decide +kernel

/-- Section 11.7: an alias that sets inhibit ends a move Inhibited and redirects the write to the control word. -/
theorem test_set_alias_inhibits : after (.setAlias 2 ⟨none, none, some 2, none⟩) desk (fun t =>
    ((t.fader 2).inhibit, t.completions.map Completion.outcome, Memory.read t.mem 0x10A4, Memory.read t.mem 0x10A8)) =
      some (true, [.inhibited], some 0, none) := by decide +kernel

/-- Section 8.8: the first intake of -18.00 dB from -40.00 dB raises the level to -23.50 dB and the hold to -18.00 dB. -/
theorem test_first_intake : after (.levelIntake 12 (half (-1800)))
      (desk.setMeter 12 { Meter.reset with level := -4000, hold := -4000 }) (fun t =>
    ((t.meter 12).level, (t.meter 12).hold, (t.meter 12).holdTimer)) = some (-2350, -1800, 1500) := by decide +kernel

/-- Section 6.9: a staged ramp of 6000 is refused with CueBadRamp. -/
theorem test_arm_refuses_ramp : afterAll [.stagingWrite .cueGain (Lanes.full (putNat 16 16 6000)), .cueArm noUpper] desk
    (fun t => (t.attn.lastRefusal, t.attn.events.stagingRefused, t.cues.cues.length)) = some (.cueBadRamp, true, 0) := by
  decide +kernel

/-- Section 10.4: a head updated after port word A is read stays, and goes once A and B are read in order. -/
theorem test_port_sequence : afterAll [.targetWrite 0 (half 0), .portARead, .targetWrite 0 (half 0), .portBRead] calm
      (fun t => t.completions.map fun c => (c.repeated, c.opened)) = some [(true, false)] ∧
    afterAll [.targetWrite 0 (half 0), .portARead, .portBRead] calm (fun t => t.completions.length) = some 0 := by
  decide +kernel

/-- Section 10.8: a pending BAY_LOST is named 9, 8. -/
theorem test_attention_word : State.overlay
      { desk with attn := { desk.attn with events := { desk.attn.events with bayLost := true, cueException := true } } }
      .attention = some 0x809 := by decide +kernel

/-! ### The hypotheses of the statements are met

One theorem for each statement that has hypotheses, by the statement's name: a state and operands that meet them, clause by
clause, at the ends of the ranges the clauses name. -/

/-- The desk meets the ownership invariants. -/
theorem desk_owned : desk.owned := by constructor <;> decide +kernel

/-- The desk while Stopped meets them too. -/
theorem stopped_owned : deskStopped.owned := by constructor <;> decide +kernel

theorem witness_StepTakesFrontCommand :
    { desk with pending := [.portARead, .frameExpiry] }.pending = .portARead :: [.frameExpiry] ∧ desk.pending = [] := by
  decide +kernel

theorem witness_EveryCommandCompletes :
    busForm (.frameExpiry) = none ∧ ∀ addr l, Instr.frameExpiry ≠ .wordWrite addr l :=
  ⟨rfl, fun _ _ => by simp⟩

theorem witness_AttnLineFollowsRule : ∃ t, exec (.acknowledge 3 noUpper) desk = .next t := ⟨_, rfl⟩

theorem witness_AttentionWordNamesMostUrgent : ∀ i : Fin 8, desk.attn.levels[i] ≤ 7 := by decide +kernel

theorem witness_ImageMapIsOneToOne : 3 < 4 ∧ wordAt 0x25F7 = some (.readout2 47) ∧ wordAt 0 = some (.command .runControl) := by
  decide +kernel

theorem witness_BusWritesDecode :
    (Instr.stop noUpper).wellFormed = true ∧
      busForm (.stop noUpper) = some (.command .runControl, ⟨some 1, none, none, none⟩) ∧
      writeOf (.target 47) ⟨none, none, none, some 0⟩ = some (.targetWrite 47 ⟨none, none, none, some 0⟩) ∧
      Lanes.nonEmpty ⟨none, none, none, some 0⟩ = true := by decide +kernel

theorem witness_WordWriteActsAsItsRow :
    3 < 4 ∧ busForm (.quietWrite (half 100)) = some (.quiet, half 100) := by decide +kernel

theorem witness_AccessesPassOrAreOverlaid :
    let s : State := { desk with bus := { desk.bus with imageSel := 1 } }
    65535 < s.imageBase ∧ s.imageBase + 65536 ≤ 131072 ∧ wordAt (131071 - s.imageBase) = none ∧
      wordAt (65636 - s.imageBase) = some .portB ∧ ImageWord.portB.wordClass = .removing ∧
      wordAt (65540 - s.imageBase) = some .motionStatus ∧ ImageWord.motionStatus.wordClass = .live ∧
      wordAt (65604 - s.imageBase) = some (.command .cueArm) ∧ (ImageWord.command .cueArm).wordClass = .command ∧
      (noData.lane0.getD 0 = 0) ∧ s.bus.inReset = false ∧ s.overlay .portB = some 0 ∧
      (ImageWord.staging .cueTag).wordClass = .staging ∧ calm.queue.entries = [] ∧ desk.queue.entries.length = 1 ∧
      desk.slot 4 = none ∧ (desk.slot 0).isSome = true ∧
      after .frameExpiry calm (fun t => (t.bay 0).sent.isSome) = some true ∧ desk.cues.cues = [] := by decide +kernel

theorem witness_AliasesAndWrittenLanes : desk.bus.inReset = false ∧ 0 < 4 ∧ 3 < 4 := by decide +kernel

theorem witness_ResetAndItsRelease : State.reset.bus.inReset = true ∧ desk.bus.inReset = false := by decide +kernel

theorem witness_ResetMakesThePartPlain :
    State.reset.bus.inReset = true ∧ busForm (.home 47 noUpper) = some (.command (.faderCommand 47), ⟨some 1, none, none, none⟩) ∧
      (Instr.portARead, ImageWord.portA) ∈ [(Instr.portARead, ImageWord.portA), (.portBRead, .portB),
        (.movedWordRead .low, .moved .low), (.movedWordRead .high, .moved .high)] ∧
      Instr.frameExpiry ∈ [Instr.frameExpiry, .cueFiring, .quietIntervalEnd, .slotGrant, .preEmption] := by decide +kernel

theorem witness_TargetWriteIsDirectRequest : desk.bus.inReset = false := rfl

theorem witness_RequestsThatMoveNothing :
    ((desk.fader 8).touch ≠ .untouched ∧ (desk.fader 8).mode ≠ .latch) ∧
      ((desk.fader 10).touch ≠ .untouched ∧ (desk.fader 10).mode = .latch) ∧
      ((deskStopped.fader 0).touch = .untouched ∧ deskStopped.queue.run = .stopped) ∧ desk.queue.run = .running ∧
      (desk.fader 16).motion = .absent ∧ (desk.fader 7).motion = .unhomed ∧ (desk.fader 6).motion = .faulted ∧
      (desk.fader 11).inhibit = true ∧ ∀ f : Fin 48, f = 16 ∨ f = 7 ∨ f = 6 ∨ f = 11 → (desk.fader f).touch = .untouched := by
  decide +kernel

theorem witness_RequestsThatWait :
    let target := rawOfPerMille 180 3920 750
    let near := withFader desk 0 (strip .idle (target + 6))
    let far := withFader desk 0 (strip .idle (target + 7))
    ((near.fader 0).motion = .idle ∧ near.slotFor 0 = none ∧ (convertGain near.law.taper (.cdb 0)).pos = 750 ∧
        ((target : Int) - (near.fader 0).raw).natAbs ≤ (near.fader 0).setup.deadband) ∧
      ((far.fader 0).motion = .idle ∧ far.slotFor 0 = none ∧
        (far.fader 0).setup.deadband < ((target : Int) - (far.fader 0).raw).natAbs) ∧
      ((desk.fader 1).motion = .waiting ∧ desk.entryFor 1 = some ⟨1, .move, .direct, 0, 0, ⟨false, false⟩, 0⟩) ∧
      ∀ f : Fin 48, f = 0 ∨ f = 1 → (desk.fader f).touch = .untouched ∧ desk.queue.run = .running ∧
        (desk.fader f).inhibit = false ∧ (desk.bay (bayOf f)).supplyFault = false := by decide +kernel

theorem witness_RequestsInASlot :
    let up := { plainSlot 4 .homing .up with cls := .home }
    (∀ i : SlotId, ∀ sl ∈ desk.slot i,
      desk.slotFor sl.fader = some (i, sl) ∧ (desk.fader sl.fader).motion = sl.use.motion ∧
        (desk.fader sl.fader).touch = .untouched ∧ desk.queue.run = .running ∧ (desk.fader sl.fader).inhibit = false ∧
        (desk.bay (bayOf sl.fader)).supplyFault = false) ∧
      (∀ i : SlotId, i.val < 4 → (desk.slot i).isSome = true) ∧ (withSlot 2 up).slotFor 4 = some (2, up) := by
  decide +kernel

theorem witness_ControlWriteTakesFields :
    desk.bus.inReset = false ∧
      (fieldFlag ((⟨none, none, some 2, none⟩ : Lanes).merge (desk.fader 11).control.toWord) 17 = true →
        (desk.fader 11).inhibit = true) ∧
      fieldFlag ((⟨some 3, none, none, none⟩ : Lanes).merge (desk.fader 0).control.toWord) 17 = false := by decide +kernel

theorem witness_InhibitEndsService :
    desk.bus.inReset = false ∧ desk.owned ∧
      fieldFlag ((⟨none, none, some 2, none⟩ : Lanes).merge (desk.fader 2).control.toWord) 17 = true ∧
      (desk.fader 2).inhibit = false :=
  ⟨rfl, desk_owned, by decide +kernel⟩

/-- A level above, at and below the display level, for both kinds. -/
theorem witness_LevelIntakeTakesLevel :
    desk.bus.inReset = false ∧ (desk.meter 0).setup.kind = .peak ∧ (-6000 : Int) ≤ (desk.meter 0).level ∧
      (desk.meter 0).level < -5999 ∧
      ((desk.setMeter 1 { Meter.reset with setup := { MeterSetup.default with kind := .average } }).meter 1).setup.kind =
        .average := by decide +kernel

theorem witness_TimeLimitAndQuietWrites :
    desk.bus.inReset = false ∧ ({ desk.attn with quiet := 1 }.quiet = 1 ∧ desk.early.quiet = false) ∧ desk.attn.quiet ≠ 1 ∧
      { desk.early with quiet := true }.quiet = true := by decide +kernel

theorem witness_GlobalSetupWritesClamp :
    desk.bus.inReset = false ∧ (∀ i : Fin 8, fieldNat (0x33333333 : Word) (4 * i.val) 4 = desk.attn.levels[i] % 16) ∧
      ∀ i : Fin 8, fieldNat (0x33333337 : Word) (4 * i.val) 4 =
        min 7 (fieldNat ((⟨some 0x3F, none, none, none⟩ : Lanes).merge 0x33333333) (4 * i.val) 4) := by decide +kernel

theorem witness_StripSetupWritesClamp : desk.bus.inReset = false := rfl

theorem witness_StagingWritesAreCopied : desk.bus.inReset = false := rfl

theorem witness_StopAndResume :
    desk.bus.inReset = false ∧ deskStopped.queue.run = .stopped ∧ desk.queue.run = .running ∧ desk.owned :=
  ⟨rfl, rfl, rfl, desk_owned⟩

theorem witness_RestartClearsMotionAndAutomation : desk.bus.inReset = false := rfl

theorem witness_HomeCommandByCase :
    desk.bus.inReset = false ∧ deskStopped.queue.run = .stopped ∧ desk.queue.run = .running ∧
      ((desk.fader 16).motion = .absent ∧ (desk.fader 8).touch ≠ .untouched ∧ (desk.fader 11).inhibit = true ∧
        (desk.fader 4).motion = .homing) ∧
      ((desk.fader 0).motion = .idle ∧ (desk.fader 7).motion = .unhomed ∧ (desk.fader 6).motion = .faulted) ∧
      ((desk.fader 1).motion = .waiting ∧ (desk.entryFor 1).isSome = true) ∧
      ((desk.fader 2).motion = .moving ∧ (desk.slotFor 2).map (fun p => p.2.use) = some .moving) ∧
      ((desk.fader 3).motion = .holding ∧ (desk.slotFor 3).map (fun p => p.2.use) = some .holding) ∧
      ∀ f : Fin 48, f = 0 ∨ f = 1 ∨ f = 2 ∨ f = 3 ∨ f = 6 ∨ f = 7 → (desk.fader f).touch = .untouched ∧
        (desk.fader f).inhibit = false ∧ (desk.bay (bayOf f)).supplyFault = false := by decide +kernel

theorem witness_ReleaseCommandByCase :
    desk.bus.inReset = false ∧ desk.owned ∧ (desk.fader 9).touch ≠ .untouched ∧
      ((desk.fader 1).touch = .untouched ∧ (desk.fader 1).motion = .waiting) ∧
      ((desk.fader 2).touch = .untouched ∧ (desk.fader 2).motion = .moving) ∧
      ((desk.fader 3).touch = .untouched ∧ (desk.fader 3).motion = .holding) ∧
      ((desk.fader 4).touch = .untouched ∧ (desk.fader 4).motion = .homing) ∧
      ((desk.fader 0).touch = .untouched ∧ (desk.fader 0).motion.free = true) :=
  ⟨rfl, desk_owned, by decide +kernel⟩

theorem witness_LeadAndLatenessOfCues : isDue 7 7 = true ∧ isDue 8 7 = false := by decide +kernel

/-- The staging of a cue for a fader, due now, with a ramp and a guard mode. -/
def staged (fader ramp mode : Nat) : State :=
  { desk with staging := { desk.staging with
    cueTag := putNat 16 8 fader, cueGain := putNat 16 16 ramp, cueGuard := putNat 8 8 mode, cueDue := 5 } }

/-- A cue for fader 0. -/
def cueAt (due : BitVec 32) (capture : Nat) : Cue := ⟨0, due, .cdb 0, 0, 40, 2, .noneTouched, capture⟩

theorem witness_CueArmAndCancel :
    desk.bus.inReset = false ∧ 48 ≤ fieldNat (staged 48 0 0).staging.cueTag 16 8 ∧
      (fieldNat (staged 47 5001 0).staging.cueTag 16 8 < 48 ∧ 5000 < fieldNat (staged 47 5001 0).staging.cueGain 16 16) ∧
      (fieldNat (staged 47 5000 4).staging.cueGain 16 16 ≤ 5000 ∧ 3 < fieldNat (staged 47 5000 4).staging.cueGuard 8 8) ∧
      ((0 : FaderId).val = fieldNat (staged 0 5000 3).staging.cueTag 16 8 ∧
        fieldNat (staged 0 5000 3).staging.cueGuard 8 8 = 3) ∧
      (let full := List.replicate 256 (cueAt 6 0)
       (∀ c ∈ full, ¬(c.fader = 0 ∧ c.due = 5)) ∧ 256 ≤ full.length) ∧
      (∃ c ∈ [cueAt 5 0], c.fader = 0 ∧ c.due = 5) ∧
      let before := [cueAt 4 0]
      let after := [cueAt 6 1]
      (before ++ after).length < 256 ∧ (∀ c ∈ before ++ after, ¬(c.fader = 0 ∧ c.due = 5) ∧ c.capture < 2) ∧
        (∀ c ∈ before, leadOf c.due 0 ≤ leadOf 5 0) ∧ ∀ c ∈ after, leadOf 5 0 < leadOf c.due 0 := by decide +kernel

/-- Pair words for two faders. -/
def pairs (f g : Nat) : State :=
  { desk with staging := { desk.staging with
    pairs := (desk.staging.pairs.set 0 (putNat 16 8 f)).set 1 (putNat 16 8 g) } }

theorem witness_CommitAndUndo :
    desk.bus.inReset = false ∧ deskStopped.queue.run = .stopped ∧ desk.queue.run = .running ∧
      (let numbers (s : State) := (s.staging.pairs.toList.take 2).map fun v => fieldNat v 16 8
       (∃ n ∈ numbers (pairs 0 48), 48 ≤ n) ∧ ((∀ n ∈ numbers (pairs 3 3), n < 48) ∧ ¬(numbers (pairs 3 3)).Nodup) ∧
         (numbers (pairs 0 47)).Nodup ∧
         [(⟨0, .cdb 0⟩ : PriorTarget), ⟨47, .cdb 0⟩].map (fun p => (p.fader.val, p.gain)) =
           ((pairs 0 47).staging.pairs.toList.take 2).map
             (fun v => (fieldNat v 16 8, Gain.ofCode (fieldInt v 0)))) ∧
      desk.recalls.history = [] ∧
      ({ desk with recalls := ⟨7, [⟨7, 200, [⟨0, .off⟩]⟩]⟩ } : State).recalls.history = ⟨7, 200, [⟨0, .off⟩]⟩ :: [] := by
  decide +kernel

/-- Point words of the taper staging. -/
def points (n : Nat) (l : List (Nat × Int)) : State :=
  { desk with staging := { desk.staging with
    taperCount := putNat 0 8 n
    taperPoints := Vector.ofFn fun i => ((l[i.val]?).map fun p => putNat 16 16 p.1 ||| putInt 0 16 p.2).getD 0 } }

theorem witness_TableCommits :
    let staged (s : State) : List TaperPoint :=
      (s.staging.taperPoints.toList.take (fieldNat s.staging.taperCount 0 8)).map fun v => ⟨fieldNat v 16 16, fieldInt v 0⟩
    let good := points 2 [(0, -12000), (1000, 2400)]
    let bad := points 3 [(0, -12000), (500, 2400), (1000, 2400)]
    desk.bus.inReset = false ∧ fieldNat (points 1 []).staging.taperCount 0 8 < 2 ∧
      16 < fieldNat (points 17 []).staging.taperCount 0 8 ∧
      staged good = [⟨0, -12000⟩, ⟨1000, 2400⟩] ∧ (staged good).Pairwise (fun p q => p.pos < q.pos ∧ p.gain < q.gain) ∧
      (staged bad).head? = some ⟨0, -12000⟩ ∧ (staged bad).getLast? = some ⟨1000, 2400⟩ ∧
      ¬(staged bad).Pairwise (fun p q => p.pos < q.pos ∧ p.gain < q.gain) ∧
      (staged (points 2 [(0, 0), (999, 1)])).getLast? = some ⟨999, 1⟩ ∧
      (∀ i j : Fin 32, i < j → (-6000 : Int) + 250 * (i.val : Int) < -6000 + 250 * (j.val : Int)) ∧
      (-6000 : Int) + 250 * 31 ≤ 2000 ∧
      ¬(-6000 ≤ fieldInt desk.staging.scale[0] 0 ∧ ∀ i j : Fin 32, i < j →
        fieldInt desk.staging.scale[i] 0 < fieldInt desk.staging.scale[j] 0) := by decide +kernel

theorem witness_AcknowledgeAndUnknownCodes :
    desk.bus.inReset = false ∧ (10 : Byte).toNat ≤ 10 ∧ (10 : Byte) ≠ 0 ∧ 10 < (11 : Byte).toNat ∧
      CommandWord.recallCommit.lists 0xC0 = false := by decide +kernel

theorem witness_PresentGainReadTakesSnapshot :
    desk.bus.inReset = false ∧ desk.bus.snapshot = none ∧ (desk.fader 0).pendingTarget = none ∧
      (desk.fader 9).pendingTarget = some ⟨.cdb (-750), .cue, 40, 0, ⟨false, false⟩⟩ ∧
      ∃ t, exec (.presentGainRead 0) desk = .next t ∧ t.bus.snapshot = t.bus.snapshot :=
  ⟨rfl, rfl, by decide +kernel, by decide +kernel, _, rfl, rfl⟩

/-- A completion record for a fader. -/
def record (f : FaderId) : Completion := ⟨f, .arrived, .none, .direct, 0, ⟨false, false⟩, false, 1000, false⟩

theorem witness_CompletionQueueAndPort :
    desk.bus.inReset = false ∧ desk.completions = [] ∧
      ({ desk with completions := [record 0] } : State).completions = record 0 :: [] ∧ (record 0).final ≤ 1000 ∧
      ∀ d ∈ [record 1], d.fader ≠ (record 0).fader := by decide +kernel

/-- Gains exactly the report step apart, and one short of it; a good frame of a Present bay and of one that joins, with a
fader fitted, one that held a slot as it arrived and one that was Absent. -/
theorem witness_MovedSetAndItsWords :
    let g := gainOfPerMille desk.law (desk.fader 0).perMille
    desk.bus.inReset = false ∧ desk.slotFor 2 ≠ none ∧ desk.slotFor 0 = none ∧ g = .cdb 0 ∧ (desk.fader 0).lastReported = .off ∧
      (desk.setup.reportStep : Int) = |(0 : Int) - 5| ∧ ¬(desk.setup.reportStep : Int) ≤ |(0 : Int) - 4| ∧
      (let bytes := frameOf 2061 false true
       bytes.length = 20 ∧ bytes[0]? = some 0xE6 ∧ bytes.tail.foldl (· + ·) 0 = (0 : Byte) ∧ bytes[1]? = some (desk.bay 0).seq ∧
         (desk.bay 0).window = .opened ∧ (desk.bay 0).state = .present ∧ (desk.bay 2).window = .opened ∧
         (desk.bay 2).state = .joining ∧ 7 ≤ (desk.bay 2).joinRun ∧ (bytes.getD 3 0).getLsbD 5 = true ∧
         (desk.fader 16).motion = .absent ∧ (desk.fader 0).motion ≠ .absent) := by decide +kernel

/-- The desk one frame short of every timer, with every window answered and a cue due at the frame after the next. -/
def quiet : State :=
  { desk with
    faders := desk.faders.set 9 { desk.fader 9 with guardTimer := 2 }
    bays := desk.bays.map fun x => { x with window := .answered }
    cues := { desk.cues with cues := [cueAt 2 0], nextCapture := 1 }
    table :=
      { desk.table with
        slots := Vector.ofFn fun i =>
          (deskSlot i).map fun sl =>
            { sl with age := sl.age - 1, holdTimer := sl.holdTimer + 1, phaseAge := sl.phaseAge - 1 } } }

theorem witness_FrameExpiryTakesEveryBlock :
    desk.bus.inReset = false ∧ deskStopped.queue.run = .stopped ∧ desk.queue.run = .running ∧
      (desk.bay 5).window ≠ .opened ∧ quiet.bus.inReset = false ∧ (∀ b, (quiet.bay b).window ≠ .opened) ∧
      (∀ i : SlotId, ∀ sl ∈ quiet.slot i,
        sl.age + 1 ≤ quiet.setup.moveLimit ∧ (sl.use = .holding → 1 < sl.holdTimer) ∧ sl.phaseAge + 1 ≤ quiet.setup.homeLimit) ∧
      (∀ f, (quiet.fader f).touch = .releasing → 1 < (quiet.fader f).guardTimer) ∧
      (∀ c ∈ quiet.cues.cues, isDue c.due (quiet.cues.surface + 1) = false) ∧ quiet.early = EarlyShare.none ∧
      quiet.early.advance = .coming ∧ desk.owned :=
  ⟨rfl, rfl, rfl, by decide +kernel, rfl, by decide +kernel, by decide +kernel, by decide +kernel, by decide +kernel, rfl,
    rfl, desk_owned⟩

/-- A meter and a cue that the coming expiry has taken are not taken again: the level does not decay (R128), and a cue captured
after the advance waits for the next one, though it is due (R94, R102). -/
theorem test_expiry_takes_nothing_twice :
    let early : EarlyShare := ⟨.taken, false, EarlyShare.none.meters.set 12 true, EarlyShare.none.slots⟩
    after .frameExpiry
        { calm with
          early := early, cues := { calm.cues with surface := 10, cues := [cueAt 10 1], nextCapture := 2 }
          engine := { calm.engine with meters := calm.engine.meters.set 12 { Meter.reset with level := -4000, hold := -4000 } } }
        (fun t => ((t.meter 12).level, t.cues.cues.length, t.cues.surface, t.early.advance)) =
      some (-4000, 1, 10, .coming) := by decide +kernel

/-- R44, R61 and R51: the first drive frame of a slot's use carries drive 0 though a good frame has computed 50; a later one
carries it, or the drive limit of 100 for 110. -/
theorem test_first_drive_frame_is_still :
    let sent (n : Nat) (d : Int) := after .frameExpiry
      { withSlot 1 { plainSlot 3 .holding .down with holdTimer := 9, framesSent := n, drive := d } with bays := quiet.bays }
      fun t => (t.bay 0).sent.map fun fr => fr.faders[(3 : Position)].drive
    (sent 0 50, sent 1 50, sent 1 110) = (some (some 0), some (some 50), some (some 100)) := by decide +kernel

theorem witness_MetersAtExpiryAndReadout :
    let stales (y : Meter) : Bool :=
      (!y.stale && decide (0 < y.setup.intakeTimeout)) && decide (y.setup.intakeTimeout ≤ y.intakeTimer + 1)
    desk.bus.inReset = false ∧ stales { Meter.reset with intakeTimer := 99 } = true ∧
      stales { Meter.reset with intakeTimer := 98 } = false ∧ desk.engine.scale.length = 32 ∧
      desk.early.meters[(0 : MeterId)] = false ∧ (desk.early.meters.set 0 true)[(0 : MeterId)] = true := by decide +kernel

/-- Each timer at the value that ends its use at the coming expiry, and one short of it. -/
theorem witness_SlotTimersEndTheirUses :
    desk.bus.inReset = false ∧ desk.owned ∧
      (∃ sl, desk.slot 0 = some sl ∧ sl.use = .moving ∧ desk.setup.moveLimit < sl.age + 1) ∧
      (∃ sl, desk.slot 3 = some sl ∧ sl.use = .homing ∧ sl.phase = .park ∧ desk.setup.moveLimit < sl.age + 1) ∧
      (∃ sl, desk.slot 1 = some sl ∧ sl.use = .holding ∧ sl.holdTimer ≤ 1) ∧
      (∃ sl, desk.slot 2 = some sl ∧ sl.use = .homing ∧ sl.phase ≠ .park ∧ desk.setup.homeLimit < sl.phaseAge + 1) ∧
      (∀ sl, (withSlot 0 { plainSlot 2 .moving .down with age := 1999 }).slot 0 = some sl → sl.use = .moving →
        sl.age + 1 ≤ desk.setup.moveLimit) ∧
      (∀ sl, (withSlot 3 { plainSlot 5 .homing .park with age := 1999 }).slot 3 = some sl → sl.use = .homing →
        sl.phase = .park → sl.age + 1 ≤ desk.setup.moveLimit) ∧
      (∀ sl, (withSlot 1 { plainSlot 3 .holding .down with holdTimer := 2 }).slot 1 = some sl → sl.use = .holding →
        1 < sl.holdTimer) ∧
      (∀ sl, (withSlot 2 { plainSlot 4 .homing .down with phaseAge := 1499 }).slot 2 = some sl → sl.use = .homing →
        sl.phase ≠ .park → sl.phaseAge + 1 ≤ desk.setup.homeLimit) ∧
      ∀ i : SlotId, desk.early.slots[i] = false ∧ (desk.early.slots.set i true)[i] = true := by
  refine ⟨rfl, desk_owned, ⟨_, rfl, ?_⟩, ⟨_, rfl, ?_⟩, ⟨_, rfl, ?_⟩, ⟨_, rfl, ?_⟩, fun sl h _ => ?_, fun sl h _ _ => ?_,
    fun sl h _ => ?_, fun sl h _ _ => ?_, ?_⟩
  any_goals cases h
  all_goals decide +kernel

theorem witness_ReleasingEndSettlesTarget :
    desk.bus.inReset = false ∧ (desk.fader 9).touch = .releasing ∧ (desk.fader 9).guardTimer ≤ 1 ∧
      ((desk.fader 9).mode = .follow ∧ (desk.fader 9).pendingTarget = some ⟨.cdb (-750), .cue, 40, 0, ⟨false, false⟩⟩) ∧
      { desk.fader 9 with pendingTarget := none }.pendingTarget = none ∧ (desk.fader 8).touch ≠ .releasing ∧
      1 < { desk.fader 9 with guardTimer := 2 }.guardTimer := by decide +kernel

/-- A desk whose cue list holds one cue. -/
def withCue (due : BitVec 32) : State :=
  { desk with cues := { desk.cues with surface := 1000, cues := [cueAt due 0], nextCapture := 1 } }

/-- The desk with cues due at 1000, 1001 and 1002, the surface time 1000, and some commands waiting. -/
def threeCues (waiting : List Instr) : State :=
  { desk with
    pending := waiting
    cues := { desk.cues with surface := 1000, cues := [cueAt 1000 0, cueAt 1001 1, cueAt 1002 2], nextCapture := 3 } }

/-- Lateness 501 and 500 against the late limit of 500, lateness 1 and 0, a cue not yet due, and each judgement; two cues due at
one advance, with and without a CUE_FIRING that follows; and each stage of an advance. -/
theorem witness_CueFiringJudgesHead :
    (∀ d : BitVec 32, (withCue d).surfaceReached.cues.cues = [] ++ cueAt d 0 :: []) ∧ desk.advanceWhole ∧
      (withCue 0).bus.inReset = false ∧ (withCue 0).queue.run = .running ∧ (withCue 0).early.advance = .coming ∧
      (isDue 500 1001 = true ∧ (withCue 0).cues.lateLimit < lateness 500 1001) ∧
      (isDue 501 1001 = true ∧ lateness 501 1001 ≤ (withCue 0).cues.lateLimit) ∧
      (isDue 1000 1001 = true ∧ 1 ≤ lateness 1000 1001) ∧ (isDue 1001 1001 = true ∧ lateness 1001 1001 = 0) ∧
      (withCue 1002).surfaceReached.judgedAt = [] ∧ (desk.fader 12).latched = true ∧ (desk.fader 0).latched = false ∧
      (∀ f : Fin 48, (desk.fader f).groups.getLsbD 2 = true → ¬(desk.fader f).touch ≠ .untouched) ∧
      (∃ f : Fin 48, (desk.fader f).groups.getLsbD 3 = true ∧ (desk.fader f).touch ≠ .untouched) ∧
      (threeCues []).surfaceReached.judgedAt = cueAt 1000 0 :: [cueAt 1001 1] ∧
      (threeCues [.senseFrame 1 [], .cueFiring]).pending = [.senseFrame 1 []] ++ .cueFiring :: [] ∧
      ({ desk.early with advance := .firing }.advance ≠ .taken) ∧ desk.cues.cues = [] ∧
      { desk.early with advance := .taken }.advance = .taken :=
  ⟨fun _ => rfl, fun h => (by cases h), by decide +kernel⟩

/-- Two cues due at one advance both fire before a Stop that follows (R97, R102); with a sense frame and another CUE_FIRING behind
it, the first fires alone (R99), and from there the rest fires. -/
theorem test_cue_firing_takes_the_whole_advance :
    let left (t : State) := (t.cues.cues.map Cue.due, t.cues.surface, t.early.advance)
    let open' := threeCues [.senseFrame 1 [], .cueFiring, .stop noUpper]
    (after .cueFiring (threeCues [.stop noUpper]) left, after .cueFiring open' left,
        after .cueFiring { open' with
          cues := { open'.cues with surface := 1001 }, pending := [], early := { desk.early with advance := .firing } } left) =
      (some ([1002], 1001, .taken), some ([1001, 1002], 1001, .firing), some ([1002], 1001, .taken)) := by decide +kernel

theorem witness_MissedFrameByBayState :
    desk.bus.inReset = false ∧ (desk.bay 5).window ≠ .opened ∧
      (∀ b : Fin 6, b.val < 5 → (desk.bay b).window = .opened) ∧ (desk.bay 4).state = .absent ∧
      (desk.bay 3).state = .lost ∧ (desk.bay 2).state = .joining ∧ (desk.bay 0).state = .present ∧ (desk.bay 0).missRun < 2 ∧
      2 ≤ { desk.bay 0 with missRun := 2 }.missRun ∧ desk.owned :=
  by refine ⟨rfl, ?_, ?_, ?_, ?_, ?_, ?_, ?_, ?_, desk_owned⟩ <;> decide +kernel

/-- A frame for echo 7 of 20 bytes, whose sum after the start byte is 0; an unopened window; bays Absent, Lost and Joining
with runs 6 and 7. -/
theorem witness_SenseFramesBeforePresent :
    let bytes := frameOf 2061 false true
    desk.bus.inReset = false ∧ bytes.length = 20 ∧ (desk.bay 5).window ≠ .opened ∧
      (bytes[0]? = some 0xE6 ∧ bytes.tail.foldl (· + ·) 0 = (0 : Byte) ∧ bytes[1]? = some (desk.bay 4).seq) ∧
      (desk.bay 4).window = .opened ∧ (desk.bay 4).state = .absent ∧ (desk.bay 3).state = .lost ∧
      (desk.bay 2).state = .joining ∧ { desk.bay 2 with joinRun := 6 }.joinRun < 7 := by decide +kernel

theorem desk_absentOk : desk.absentOk := by decide +kernel
theorem desk_heldFree : desk.heldFree := by decide +kernel
theorem desk_pendingOnlyHeld : desk.pendingOnlyHeld := by decide +kernel

/-- A good frame for echo 7 with nothing fitted. -/
def bare : List Byte := 0xE6 :: 7 :: List.replicate 16 0 ++ [1, 0xF8]

/-- R137 and R142: every fader that a bay with nothing fitted served ends BayLost, in position order. -/
theorem test_unfitted_faders_end : after (.senseFrame 0 bare) desk (fun t =>
    (t.completions.map fun c => (c.fader.val, c.outcome), t.fader 3 |>.motion)) =
      some ([1, 2, 3, 4, 5].map fun n => (n, .bayLost), .absent) := by decide +kernel

/-- Bay 0 is Present and fitted throughout, so that a frame with nothing fitted loses faders that wait, move, hold and home; bay
2 joins with its eighth good frame. -/
theorem witness_SenseFrameUpdatesBay :
    let bytes := frameOf 2061 false true
    desk.bus.inReset = false ∧ bytes.length = 20 ∧ desk.owned ∧ desk.absentOk ∧ desk.heldFree ∧
      ((desk.bay 0).window = .opened ∧ (desk.bay 0).state = .present) ∧
      ((desk.bay 2).window = .opened ∧ (desk.bay 2).state = .joining ∧ 7 ≤ (desk.bay 2).joinRun) ∧
      (bytes[0]? = some 0xE6 ∧ bytes.tail.foldl (· + ·) 0 = (0 : Byte) ∧ bytes[1]? = some (desk.bay 0).seq) ∧
      (∀ p : Position, (desk.bay 0).fitted.getLsbD p.val = true) ∧
      (∀ p : Position, p.val = 1 ∨ p.val = 2 ∨ p.val = 3 ∨ p.val = 5 →
        (desk.serviceRecord (faderAt 0 p) .bayLost).isSome = true) ∧ desk.serviceRecord 0 .bayLost = none ∧
      (bayOf 8 ≠ 0 ∧ bayOf 16 ≠ 0) ∧
      (bare.length = 20 ∧ bare[0]? = some 0xE6 ∧ bare.tail.foldl (· + ·) 0 = (0 : Byte) ∧ bare[1]? = some (desk.bay 0).seq ∧
        ∀ p : Position, (bare.getD (3 + 2 * p.val) 0).getLsbD 5 = false) :=
  ⟨rfl, by decide +kernel, desk_owned, desk_absentOk, desk_heldFree, by decide +kernel⟩

theorem witness_SupplyReportEndsService :
    desk.owned ∧ ((frameOf 0 false true).getD 18 0).getLsbD 0 = true ∧ ((frameOf 0 false false).getD 18 0).getLsbD 0 = false ∧
      { desk.bay 0 with supplyFault := true }.supplyFault = true ∧ (desk.bay 0).supplyFault = false :=
  ⟨desk_owned, by decide +kernel⟩

/-- Drives of both ends, and segments at their highest. -/
theorem witness_DriveFrameBytes :
    (-128 : Int) ≤ (⟨true, -127⟩ : DriveEntry).drive ∧ (⟨true, 127⟩ : DriveEntry).drive ≤ 127 ∧
      (⟨32, 32, true⟩ : MeterEntry).lit ≤ 32 ∧ (⟨32, 32, true⟩ : MeterEntry).hold ≤ 32 := by decide

/-- A free slot below the limit for the head of the queue; a limit reached with one hold to take; and neither. -/
theorem witness_GrantAndPreEmption :
    let tight : State := { desk with table := { desk.table with limit := 4 } }
    desk.bus.inReset = false ∧ desk.queue.run = .running ∧
      (desk.queue.entries = ⟨1, .move, .direct, 0, 0, ⟨false, false⟩, 0⟩ :: [] ∧
        (desk.queue.entries.map Entry.fader).Nodup ∧ desk.occupied < desk.table.limit ∧ desk.slot 4 = none ∧
        ∀ j : SlotId, j < 4 → desk.slot j ≠ none) ∧
      (tight.table.limit ≤ tight.occupied ∧ tight.slot 1 = some { plainSlot 3 .holding .down with holdTimer := 1 } ∧
        ∀ j : SlotId, j ≠ 1 → ∀ sl ∈ tight.slot j, sl.use ≠ .holding) ∧
      calm.queue.entries = [] ∧ deskStopped.queue.run = .stopped := by decide +kernel

theorem witness_ArbiterAndQueueOrder :
    desk.arbiterStep.isSome = true ∧ calm.arbiterStep = none ∧
      (let e : Entry := ⟨13, .move, .cue, 0, 0, ⟨false, false⟩, 2⟩
       desk.queue.entries.Pairwise (fun a b => a.cls.code < b.cls.code ∨ (a.cls = b.cls ∧ a.stamp < b.stamp)) ∧
         ∀ d ∈ desk.queue.entries, d.stamp ≠ e.stamp) := by decide +kernel

/-- Each run at the value that changes the touch state, and one short of it. -/
theorem witness_TouchDebounceAndTakeover :
    ((desk.fader 0).touch = .untouched ∧ (desk.fader 0).touchRun = 0) ∧
      ((desk.fader 12).touch = .untouched ∧ 1 ≤ (desk.fader 12).touchRun) ∧
      ((desk.fader 10).touch = .touched ∧ 2 ≤ (desk.fader 10).releaseRun) ∧
      ((desk.fader 8).touch = .touched ∧ (desk.fader 8).releaseRun < 2) ∧ (desk.fader 9).touch = .releasing ∧
      0 < desk.setup.releaseGuard ∧ { desk.setup with releaseGuard := 0 }.releaseGuard = 0 ∧ desk.owned :=
  by refine ⟨?_, ?_, ?_, ?_, ?_, ?_, ?_, desk_owned⟩ <;> decide +kernel

/-- A ramp of 1; an error within the deadband, one whose drive stays below the limit, and one that saturates it. -/
theorem witness_StepAndDriveArithmetic :
    let x := FaderSetup.default
    1 ≤ 1 ∧ ((206 : Int) - 200).natAbs ≤ x.deadband ∧ x.deadband < ((207 : Int) - 200).natAbs ∧
      (driveFor x 207 200).natAbs < x.driveLimit ∧ x.deadband < ((267 : Int) - 200).natAbs ∧
      (driveFor x 267 200).natAbs = x.driveLimit := by decide +kernel

/-- What a good frame of a move judges: arrived, a full stall window, and hardly moved across it. -/
def moveFacts (s : State) (sl : Slot) : Bool × Bool × Bool :=
  let x := s.fader sl.fader
  let point := if sl.setpoint ≤ sl.targetRaw then min sl.targetRaw (sl.setpoint + sl.step)
    else max sl.targetRaw (sl.setpoint - sl.step)
  let settled := point = sl.targetRaw ∧ ((sl.targetRaw : Int) - x.raw).natAbs ≤ x.setup.deadband
  let saturated := x.setup.driveLimit ≤ (driveFor x.setup point x.raw).natAbs
  let run := if saturated then sl.stallRun + 1 else 0
  let reference := if saturated then (if sl.stallRun = 0 then some x.raw else sl.stallRef) else none
  (decide (settled ∧ x.setup.settleFrames ≤ if settled then sl.settle + 1 else 0), decide (s.setup.stallWindow ≤ run),
    decide (((x.raw : Int) - (reference.getD x.raw : Nat)).natAbs < s.setup.stallTravel))

/-- The worked move arrives (section 3.4), the worked stall stalls (section 3.5), one that crept 8 counts goes on, and so
does one whose window is not full. -/
theorem witness_MovingSlotTakesFrame :
    let mv := { plainSlot 2 .moving .down with setpoint := 500, targetRaw := 3108, stallRun := 39, stallRef := some 500 }
    moveFacts (withFader desk 2 (strip .moving 2061)) { plainSlot 2 .moving .down with settle := 2 } = (true, false, true) ∧
      moveFacts (withFader desk 2 (strip .moving 503)) { mv with setpoint := 2100 } = (false, true, true) ∧
      moveFacts (withFader desk 2 (strip .moving 508)) { mv with setpoint := 2100 } = (false, true, false) ∧
      moveFacts (withFader desk 2 (strip .moving 503)) { mv with setpoint := 2100, stallRun := 38 } = (false, false, true) ∧
      mv.use = .moving ∧ (plainSlot 5 .homing .park).use = .homing ∧ (plainSlot 5 .homing .park).phase = .park ∧
      (plainSlot 3 .holding .down).use = .holding := by decide +kernel

/-- R51 and R55: a held fader pushed to raw 2040 is driven back by 21 x 12 / 8, truncated, its setpoint kept. -/
theorem test_hold_is_driven_back : after (.senseFrame 0 (frameOf 2040 false true)) desk (fun t =>
    (t.slot 1).map fun sl => (sl.use, sl.setpoint, sl.drive)) = some (some (.holding, 2061, 31)) := by decide +kernel

/-- A hold of 0 and of 1 frames, and the Park of the desk with both ends found. -/
theorem witness_ArrivalAndStallEndTheSlot :
    { FaderSetup.default with holdFrames := 0 }.holdFrames = 0 ∧ 0 < { FaderSetup.default with holdFrames := 1 }.holdFrames ∧
      (∃ sl, desk.slot 3 = some sl ∧ sl.use = .homing ∧ sl.phase = .park ∧ sl.foundLow = some 180 ∧
        sl.foundHigh = some 3920) ∧
      ∀ j : SlotId, j ≠ 3 → ∀ sl ∈ desk.slot j, sl.fader ≠ 5 :=
  ⟨rfl, by decide, ⟨_, rfl, by decide +kernel⟩, by decide +kernel⟩

/-- A still run one short of the still frames and one that reaches them, a fader that moved 1 and 2 counts, and spans at
and below the least one. -/
theorem witness_HomingFindsTravelEnds :
    (∃ sl, desk.slot 2 = some sl ∧ sl.use = .homing ∧ sl.phase = .down ∧ ¬desk.setup.stillFrames ≤ sl.stillRun + 1) ∧
      desk.setup.stillFrames ≤ 19 + 1 ∧ ((1001 : Int) - 1000).natAbs < desk.setup.stillTravel ∧
      ¬((1002 : Int) - 1000).natAbs < desk.setup.stillTravel ∧ (desk.setup.minSpan : Int) ≤ 2180 - 180 ∧
      (2179 : Int) - 180 < desk.setup.minSpan ∧ ∀ j : SlotId, j ≠ 2 → ∀ sl ∈ desk.slot j, sl.fader ≠ 4 :=
  ⟨⟨_, rfl, by decide +kernel⟩, by decide +kernel⟩

/-- R32, R67: a target of Off taken below the cut, at position 3, parks at the found low; a gain parks at its position. -/
theorem test_off_parks_at_the_found_low :
    let parked (g : Gain) (p : Nat) := (((desk.modFader 5 fun x => { x with targetGain := g, targetPos := p, raw := 3920 }).beginPark
      3 (plainSlot 5 .homing .up) 180 3920).slot 3).map Slot.targetRaw
    (parked .off 3, parked (.cdb 0) 3) = (some 180, some 191) := by decide +kernel

/-- The default taper table, with its first segment and a gain at the segment's lower end. -/
theorem witness_ForwardConversionOfGains :
    let t := State.reset.law.taper
    taperOk t = true ∧ t = [] ++ ⟨0, -9000⟩ :: ⟨60, -6000⟩ :: t.drop 2 ∧ (-9000 : Int) ≤ -9000 ∧ (-9000 : Int) ≤ -6000 := by
  decide +kernel

theorem witness_InverseAndRawMapping :
    let t := State.reset.law.taper
    State.reset.law.ok ∧ 4 < State.reset.law.cut ∧ (⟨60, -6000⟩ : TaperPoint) ∈ t ∧ State.reset.law.cut ≤ 60 ∧
      State.reset.law.cut ≤ 5 ∧ 1000 ≤ 1000 ∧ 180 < 3920 ∧ (t = [] ++ ⟨0, -9000⟩ :: ⟨60, -6000⟩ :: t.drop 2 ∧ 5 ≤ 60) ∧
      180 ≤ 2061 ∧ 2061 ≤ 3920 := by decide +kernel

/-- The calm desk with a cue, a completion, a history and two bytes in memory, about to take a frame expiry. -/
def full : State :=
  { calm with
    mem := [(0, 1), (0x1334, 64)]
    cues := { calm.cues with cues := [cueAt 5 0], nextCapture := 1 }
    completions := [{ record 0 with opened := true }, record 1]
    recalls := ⟨7, [⟨7, 200, [⟨0, .off⟩]⟩]⟩
    pending := [.portBRead] }

theorem witness_MemoryAndListsKeepTheirForm :
    (Memory.wf full.mem ∧ ∃ t, step full = .next t) ∧ full.cues.ok ∧ full.queue.ordered ∧ completionsOk full.completions ∧
      full.recalls.ok :=
  ⟨⟨by decide +kernel, _, rfl⟩, by decide +kernel, by decide +kernel, by decide +kernel, by decide +kernel⟩

/-- The desk about to take a frame expiry. -/
def busy : State := { desk with pending := [.frameExpiry] }

theorem witness_OwnershipOfFadersIsKept :
    busy.owned ∧ busy.absentOk ∧ busy.heldFree ∧ busy.pendingOnlyHeld ∧ ∃ t, step busy = .next t :=
  ⟨⟨desk_owned.1, desk_owned.2, desk_owned.3, desk_owned.4, desk_owned.5, desk_owned.6⟩, desk_absentOk, desk_heldFree,
    desk_pendingOnlyHeld, _, rfl⟩

theorem witness_ArbiterStaysSettled :
    full.queue.run = .running ∧ full.settled ∧ ∃ t, step full = .next t :=
  ⟨rfl, show full.arbiterStep = none by decide +kernel, _, rfl⟩

theorem desk_settingsOk : desk.settingsOk :=
  by constructor <;> decide +kernel

theorem witness_TablesAndSettingsStayInRange :
    (∃ t, step busy = .next t) ∧ busy.law.ok ∧ scaleInForce busy.engine.scale ∧ busy.settingsOk ∧
      (∀ m, (busy.meter m).setup.inRange ∧ (busy.meter m).ok) ∧ ∀ b, (busy.bay b).ok :=
  ⟨⟨_, rfl⟩, by decide +kernel, by decide +kernel,
    ⟨desk_settingsOk.1, desk_settingsOk.2, desk_settingsOk.3, desk_settingsOk.4, desk_settingsOk.5, desk_settingsOk.6,
      desk_settingsOk.7, desk_settingsOk.8, desk_settingsOk.9⟩,
    by decide +kernel, by decide +kernel⟩

theorem witness_PositionsStayCalibrated :
    busy.owned ∧ busy.absentOk ∧ busy.heldFree ∧ busy.pendingOnlyHeld ∧ busy.settingsOk ∧ busy.law.ok ∧ busy.positionsOk ∧
      (∃ t, step busy = .next t) ∧
      ∀ f, (busy.fader f).perMille = perMilleOfRaw (busy.calInForce f).1 (busy.calInForce f).2 (busy.fader f).raw :=
  ⟨witness_OwnershipOfFadersIsKept.1, desk_absentOk, desk_heldFree, desk_pendingOnlyHeld,
    witness_TablesAndSettingsStayInRange.2.2.2.1, by decide +kernel,
    ⟨by decide +kernel, by decide +kernel, by decide +kernel⟩, ⟨_, rfl⟩, by decide +kernel⟩

/-- A Stop changes the run state; a good frame that ends the Park of fader 5 gives it the pair its homing found. -/
theorem witness_RunStateAndCalibrationChangeOnlyByRule :
    desk.owned ∧ (∃ t, exec (.stop noUpper) desk = .next t) ∧
      after (.stop noUpper) desk (fun t => t.queue.run) = some .stopped ∧
      after (.senseFrame 0 (frameOf 2061 false true)) desk (fun t => (t.fader 5).cal) = some worked ∧
      (desk.fader 5).cal ≠ worked :=
  ⟨desk_owned, ⟨_, rfl⟩, by decide +kernel, by decide +kernel, by decide +kernel⟩

end Sys2Proof.Tests
end

section
/-! What the part holds of one fader: its entries in the wait queue (R24), the slots it occupies (R41) and its completion
records (R143), and what each shared operation leaves of them. -/

namespace Sys2Proof.Machine

/-! ### Entries, slots and completion records of one fader -/

/-- The entries of a fader. -/
def State.entriesOf (s : State) (f : FaderId) : List Entry :=
  s.queue.entries.filter fun e => decide (e.fader = f)

/-- The slot table as far as one fader occupies it. -/
def State.slotsOf (s : State) (f : FaderId) : SlotId → Option Slot :=
  fun i => (s.slot i).filter fun sl => decide (sl.fader = f)

/-- The completion records of a fader. -/
def State.recordsOf (s : State) (f : FaderId) : List Completion :=
  s.completions.filter fun c => decide (c.fader = f)

/-- No slot. -/
def noSlot : SlotId → Option Slot :=
  fun _ => none

/-- One slot and no other. -/
def onlySlot (i : SlotId) (sl : Slot) : SlotId → Option Slot :=
  Function.update noSlot i (some sl)

theorem onlySlot_eq_some {i j : SlotId} {sl sl' : Slot} : onlySlot i sl j = some sl' ↔ j = i ∧ sl' = sl := by
  unfold onlySlot noSlot
  by_cases h : j = i
  · subst h; simp [eq_comm]
  · simp [h]

@[simp] theorem update_onlySlot (i : SlotId) (sl : Slot) (o : Option Slot) :
    Function.update (onlySlot i sl) i o = Function.update noSlot i o := by
  simp [onlySlot]

@[simp] theorem update_noSlot_none (i : SlotId) : Function.update noSlot i none = noSlot :=
  Function.update_eq_self i noSlot

theorem update_noSlot_some (i : SlotId) (sl : Slot) : Function.update noSlot i (some sl) = onlySlot i sl := rfl

theorem State.slotsOf_eq_some {s : State} {f : FaderId} {i : SlotId} {sl : Slot} :
    s.slotsOf f i = some sl ↔ s.slot i = some sl ∧ sl.fader = f := by
  simp [State.slotsOf, Option.filter_eq_some_iff]

theorem State.mem_entriesOf {s : State} {f : FaderId} {e : Entry} :
    e ∈ s.entriesOf f ↔ e ∈ s.queue.entries ∧ e.fader = f := by
  simp [State.entriesOf]

/-! ### What the shared operations leave of them -/

@[simp] theorem State.setFader_entriesOf (s : State) (f : FaderId) (x : Fader) (g : FaderId) :
    (s.setFader f x).entriesOf g = s.entriesOf g := rfl
@[simp] theorem State.setFader_slotsOf (s : State) (f : FaderId) (x : Fader) (g : FaderId) :
    (s.setFader f x).slotsOf g = s.slotsOf g := rfl
@[simp] theorem State.modFader_entriesOf (s : State) (f : FaderId) (h : Fader → Fader) (g : FaderId) :
    (s.modFader f h).entriesOf g = s.entriesOf g := rfl
@[simp] theorem State.modFader_slotsOf (s : State) (f : FaderId) (h : Fader → Fader) (g : FaderId) :
    (s.modFader f h).slotsOf g = s.slotsOf g := rfl
@[simp] theorem State.modFader_recordsOf (s : State) (f : FaderId) (h : Fader → Fader) (g : FaderId) :
    (s.modFader f h).recordsOf g = s.recordsOf g := rfl
@[simp] theorem State.setSlot_entriesOf (s : State) (i : SlotId) (o : Option Slot) (g : FaderId) :
    (s.setSlot i o).entriesOf g = s.entriesOf g := rfl
@[simp] theorem State.setSlot_recordsOf (s : State) (i : SlotId) (o : Option Slot) (g : FaderId) :
    (s.setSlot i o).recordsOf g = s.recordsOf g := rfl
@[simp] theorem State.complete_entriesOf (s : State) (f : FaderId) (o : EndOutcome) (k : SkipCause) (c : ReqClass) (t : Tag)
    (m : Marks) (g : FaderId) : (s.complete f o k c t m).entriesOf g = s.entriesOf g := rfl
@[simp] theorem State.complete_slotsOf (s : State) (f : FaderId) (o : EndOutcome) (k : SkipCause) (c : ReqClass) (t : Tag)
    (m : Marks) (g : FaderId) : (s.complete f o k c t m).slotsOf g = s.slotsOf g := rfl
@[simp] theorem State.raise_entriesOf (s : State) (e : EventSource) (g : FaderId) :
    (s.raise e).entriesOf g = s.entriesOf g := rfl
@[simp] theorem State.raise_slotsOf (s : State) (e : EventSource) (g : FaderId) :
    (s.raise e).slotsOf g = s.slotsOf g := rfl
@[simp] theorem State.raise_recordsOf (s : State) (e : EventSource) (g : FaderId) :
    (s.raise e).recordsOf g = s.recordsOf g := rfl
@[simp] theorem State.removeEntry_slotsOf (s : State) (f g : FaderId) : (s.removeEntry f).slotsOf g = s.slotsOf g := rfl
@[simp] theorem State.removeEntry_recordsOf (s : State) (f g : FaderId) :
    (s.removeEntry f).recordsOf g = s.recordsOf g := rfl
@[simp] theorem State.replaceEntry_slotsOf (s : State) (e : Entry) (g : FaderId) :
    (s.replaceEntry e).slotsOf g = s.slotsOf g := rfl
@[simp] theorem State.replaceEntry_recordsOf (s : State) (e : Entry) (g : FaderId) :
    (s.replaceEntry e).recordsOf g = s.recordsOf g := rfl
@[simp] theorem State.joinQueue_slotsOf (s : State) (f : FaderId) (k : EntryKind) (c : ReqClass) (t : Tag) (r : Nat)
    (m : Marks) (g : FaderId) : (s.joinQueue f k c t r m).slotsOf g = s.slotsOf g := rfl
@[simp] theorem State.joinQueue_recordsOf (s : State) (f : FaderId) (k : EntryKind) (c : ReqClass) (t : Tag) (r : Nat)
    (m : Marks) (g : FaderId) : (s.joinQueue f k c t r m).recordsOf g = s.recordsOf g := rfl
theorem State.joinQueue_fader (s : State) (f : FaderId) (k : EntryKind) (c : ReqClass) (t : Tag) (r : Nat) (m : Marks)
    (g : FaderId) : (s.joinQueue f k c t r m).fader g = (s.modFader f fun x => { x with motion := .waiting }).fader g := rfl

@[simp] theorem State.setSlot_slotsOf (s : State) (i : SlotId) (o : Option Slot) (g : FaderId) :
    (s.setSlot i o).slotsOf g = Function.update (s.slotsOf g) i (o.filter fun sl => decide (sl.fader = g)) := by
  funext j
  by_cases h : i = j
  · subst h; simp [State.slotsOf]
  · simp [State.slotsOf, s.setSlot_slot, h, Function.update_of_ne (Ne.symm h)]

/-- A slot that a fader does not occupy, before or after, is not among its slots. -/
theorem State.setSlot_slotsOf_other {s : State} {i : SlotId} {o : Option Slot} {g : FaderId}
    (h : ∀ sl, s.slot i = some sl → sl.fader ≠ g) (h' : ∀ sl, o = some sl → sl.fader ≠ g) :
    (s.setSlot i o).slotsOf g = s.slotsOf g := by
  have drop : ∀ o' : Option Slot, (∀ sl, o' = some sl → sl.fader ≠ g) → o'.filter (fun sl => decide (sl.fader = g)) = none :=
    fun o' ho => Option.filter_eq_none_iff.mpr fun sl hsl => by simpa using ho sl hsl
  rw [State.setSlot_slotsOf, Function.update_eq_self_iff, drop o h']
  exact (drop _ h).symm

@[simp] theorem State.removeEntry_entriesOf_self (s : State) (f : FaderId) : (s.removeEntry f).entriesOf f = [] := by
  simp [State.entriesOf, State.removeEntry]

theorem State.removeEntry_entriesOf_ne (s : State) {f g : FaderId} (h : g ≠ f) :
    (s.removeEntry f).entriesOf g = s.entriesOf g := by
  simp only [State.entriesOf, State.removeEntry, List.filter_filter]
  exact List.filter_congr fun e _ => by by_cases he : e.fader = g <;> simp [he, h]

/-- An entry takes its place in the queue without changing which entries another fader has. -/
theorem filter_insertEntry_ne (e : Entry) (q : List Entry) {g : FaderId} (h : g ≠ e.fader) :
    (insertEntry e q).filter (fun d => decide (d.fader = g)) = q.filter fun d => decide (d.fader = g) := by
  induction q with
  | nil => simp [insertEntry, Ne.symm h]
  | cons x rest ih =>
    unfold insertEntry
    split
    · simp [List.filter_cons, Ne.symm h]
    · simp [List.filter_cons, ih]

/-- An entry of a fader that had none is its one entry. -/
theorem filter_insertEntry_self (e : Entry) (q : List Entry) (h : q.filter (fun d => decide (d.fader = e.fader)) = []) :
    (insertEntry e q).filter (fun d => decide (d.fader = e.fader)) = [e] := by
  induction q with
  | nil => simp [insertEntry]
  | cons x rest ih =>
    have hx : x.fader ≠ e.fader := fun hx => by simp [hx] at h
    unfold insertEntry
    split
    · rw [List.filter_cons_of_pos (by simp), h]
    · rw [List.filter_cons_of_neg (by simpa using hx)]
      exact ih (by rwa [List.filter_cons_of_neg (by simpa using hx)] at h)

theorem State.replaceEntry_entriesOf_self (s : State) (e : Entry) : (s.replaceEntry e).entriesOf e.fader = [e] :=
  filter_insertEntry_self e _ (s.removeEntry_entriesOf_self e.fader)

theorem State.replaceEntry_entriesOf_ne (s : State) (e : Entry) {g : FaderId} (h : g ≠ e.fader) :
    (s.replaceEntry e).entriesOf g = s.entriesOf g :=
  (filter_insertEntry_ne e _ h).trans (s.removeEntry_entriesOf_ne h)

theorem State.joinQueue_entriesOf_self (s : State) (f : FaderId) (k : EntryKind) (c : ReqClass) (t : Tag) (r : Nat)
    (m : Marks) (h : s.entriesOf f = []) :
    (s.joinQueue f k c t r m).entriesOf f = [⟨f, k, c, t, r, m, s.queue.nextStamp⟩] :=
  filter_insertEntry_self ⟨f, k, c, t, r, m, s.queue.nextStamp⟩ _ h

theorem State.joinQueue_entriesOf_ne (s : State) {f g : FaderId} (k : EntryKind) (c : ReqClass) (t : Tag) (r : Nat)
    (m : Marks) (h : g ≠ f) : (s.joinQueue f k c t r m).entriesOf g = s.entriesOf g :=
  filter_insertEntry_ne _ _ h

/-- A record of one fader leaves the records of every other as they are. -/
theorem filter_writeRecord_ne (c : Completion) (q : List Completion) {g : FaderId} (h : g ≠ c.fader) :
    (writeRecord c q).filter (fun d => decide (d.fader = g)) = q.filter fun d => decide (d.fader = g) := by
  induction q with
  | nil => simp [writeRecord, Ne.symm h]
  | cons x rest ih =>
    unfold writeRecord
    split
    · next hx => simp [hx, Ne.symm h]
    · simp [List.filter_cons, ih]

theorem State.complete_recordsOf_ne (s : State) {f g : FaderId} (o : EndOutcome) (k : SkipCause) (c : ReqClass) (t : Tag)
    (m : Marks) (h : g ≠ f) : (s.complete f o k c t m).recordsOf g = s.recordsOf g :=
  filter_writeRecord_ne _ _ h

end Sys2Proof.Machine
end

section
/-! What holds of one fader between two commands, in the terms of O55 and O58: who serves it, where it stands, and that its
per-mille is the raw mapping of its raw position; and what an action on some faders keeps of that, for those faders and for
all others. -/

namespace Sys2Proof.Machine

/-! ### The invariants at one fader -/

/-- Who serves a fader: nothing, its one entry, or its one slot (R2, R24, R41). -/
inductive State.Served (s : State) (f : FaderId) : Prop
  | free (motion : (s.fader f).motion.free = true) (entries : s.entriesOf f = []) (slots : s.slotsOf f = noSlot)
  | waits (e : Entry) (motion : (s.fader f).motion = .waiting) (entries : s.entriesOf f = [e])
      (slots : s.slotsOf f = noSlot)
  | driven (i : SlotId) (sl : Slot) (motion : (s.fader f).motion = sl.use.motion) (entries : s.entriesOf f = [])
      (slots : s.slotsOf f = onlySlot i sl)

/-- Whether a fader may be served: Untouched, not inhibited, and on a bay without supply fault (R28, R29, R78). -/
structure State.Servable (s : State) (f : FaderId) : Prop where
  untouched : (s.fader f).held = false
  enabled : (s.fader f).inhibit = false
  supplied : s.supplyFaulted f = false

/-- The ownership invariants of O55 at one fader, but for its pending target. -/
structure State.SoundAt (s : State) (f : FaderId) : Prop where
  served : s.Served f
  absent : (s.fader f).motion = .absent ↔ s.onBay f = false
  gone : (s.fader f).motion = .absent → (s.fader f).touch = .untouched ∧ (s.fader f).stale = true
  servable : (s.fader f).motion.free = true ∨ s.Servable f

/-- A pending target is held by a Touched or Releasing fader only (R15, R85). -/
def State.PendedAt (s : State) (f : FaderId) : Prop :=
  (s.fader f).pendingTarget ≠ none → (s.fader f).held = true

/-- The position invariants of O58 at one fader, under a taper table of R10 and a least span above 0. -/
structure State.PlacedAt (s : State) (f : FaderId) : Prop where
  taper : taperOk s.law.taper = true
  span : 1 ≤ s.setup.minSpan
  cal : (s.fader f).cal.ok
  slots : ∀ i sl, s.slotsOf f i = some sl → sl.setpointOk (s.fader f).cal = true
  inRange : (s.fader f).inRange

/-- The per-mille of a fader is the raw mapping of its raw position under the calibration in force (R3, R58). -/
def State.TrackedAt (s : State) (f : FaderId) : Prop :=
  (s.fader f).perMille = perMilleOfRaw (s.calInForce f).1 (s.calInForce f).2 (s.fader f).raw

/-- The ownership invariants at every fader. -/
def State.Sound (s : State) : Prop :=
  ∀ f, s.SoundAt f

/-! ### The slot and the calibration in force of a served fader -/

theorem State.slotFor_eq_none {s : State} {f : FaderId} (h : s.slotsOf f = noSlot) : s.slotFor f = none := by
  cases hf : s.slotFor f with
  | none => rfl
  | some p =>
    have : s.slotsOf f p.1 = some p.2 := State.slotsOf_eq_some.mpr (State.slotFor_some hf)
    simp [h, noSlot] at this

theorem State.slotFor_eq_some {s : State} {f : FaderId} {i : SlotId} {sl : Slot} (h : s.slotsOf f = onlySlot i sl) :
    s.slotFor f = some (i, sl) := by
  have hi : s.slot i = some sl ∧ sl.fader = f := State.slotsOf_eq_some.mp (by simp [h, onlySlot])
  cases hf : s.slotFor f with
  | none => exact absurd hi.2 (State.slotFor_none hf i sl hi.1)
  | some p =>
    have hp : s.slotsOf f p.1 = some p.2 := State.slotsOf_eq_some.mpr (State.slotFor_some hf)
    rw [h, onlySlot_eq_some] at hp
    rw [← hp.1, ← hp.2]

theorem State.calInForce_of_noSlot {s : State} {f : FaderId} (h : s.slotsOf f = noSlot) :
    s.calInForce f = ((s.fader f).cal.low, (s.fader f).cal.high) := by
  simp [State.calInForce, s.slotFor_eq_none h]

theorem State.calInForce_of_onlySlot {s : State} {f : FaderId} {i : SlotId} {sl : Slot} (h : s.slotsOf f = onlySlot i sl) :
    s.calInForce f = sl.ends (s.fader f).cal := by
  simp [State.calInForce, s.slotFor_eq_some h, Slot.ends]

/-- Outside Park the ends of a slot are those of the calibration record (R50). -/
theorem Slot.ends_of_not_park {sl : Slot} (h : ¬(sl.use = .homing ∧ sl.phase = .park)) (c : Calibration) :
    sl.ends c = (c.low, c.high) :=
  if_neg h

/-- A fader with one slot holds that slot, under its own number. -/
theorem State.slot_of_onlySlot {s : State} {f : FaderId} {i : SlotId} {sl : Slot} (h : s.slotsOf f = onlySlot i sl) :
    s.slot i = some sl ∧ sl.fader = f :=
  State.slotsOf_eq_some.mp (by simp [h, onlySlot])

/-- The fader of an occupied slot is driven by that slot. -/
theorem State.SoundAt.driven_of_slot {s : State} {i : SlotId} {sl : Slot} (hs : s.SoundAt sl.fader)
    (hi : s.slot i = some sl) :
    (s.fader sl.fader).motion = sl.use.motion ∧ s.entriesOf sl.fader = [] ∧ s.slotsOf sl.fader = onlySlot i sl := by
  have hsl : s.slotsOf sl.fader i = some sl := State.slotsOf_eq_some.mpr ⟨hi, rfl⟩
  cases hs.served with
  | free _ _ h => simp [h, noSlot] at hsl
  | waits _ _ _ h => simp [h, noSlot] at hsl
  | driven j sl' hm he h =>
    obtain ⟨rfl, rfl⟩ := onlySlot_eq_some.mp (h ▸ hsl)
    exact ⟨hm, he, h⟩

/-- The fader of an entry waits with that entry. -/
theorem State.SoundAt.waits_of_entry {s : State} {e : Entry} (hs : s.SoundAt e.fader) (he : e ∈ s.queue.entries) :
    (s.fader e.fader).motion = .waiting ∧ s.entriesOf e.fader = [e] ∧ s.slotsOf e.fader = noSlot := by
  have hel : e ∈ s.entriesOf e.fader := State.mem_entriesOf.mpr ⟨he, rfl⟩
  cases hs.served with
  | free _ h _ => simp [h] at hel
  | driven _ _ _ h _ => simp [h] at hel
  | waits e' hm h hn =>
    rw [h, List.mem_singleton] at hel
    exact ⟨hm, hel ▸ h, hn⟩

/-- A slot's use is no motion in which a fader is free. -/
@[simp] theorem SlotUse.motion_free (u : SlotUse) : u.motion.free = false := by
  cases u <;> rfl

@[simp] theorem SlotUse.motion_ne_absent (u : SlotUse) : u.motion ≠ .absent := by
  cases u <;> decide

@[simp] theorem SlotUse.motion_ne_waiting (u : SlotUse) : u.motion ≠ .waiting := by
  cases u <;> decide

@[simp] theorem Calibration.motion_ne_absent (c : Calibration) : c.motion ≠ .absent := by
  unfold Calibration.motion; split <;> [decide; (split <;> decide)]

theorem State.SoundAt.free_of {s : State} {f : FaderId} (hs : s.SoundAt f) (h : (s.fader f).motion.free = true) :
    s.entriesOf f = [] ∧ s.slotsOf f = noSlot := by
  cases hs.served with
  | free _ he hn => exact ⟨he, hn⟩
  | waits _ hm => simp [hm, MotionState.free] at h
  | driven _ _ hm => simp [hm] at h

theorem State.SoundAt.waiting_of {s : State} {f : FaderId} (hs : s.SoundAt f) (h : (s.fader f).motion = .waiting) :
    ∃ e, s.entryFor f = some e ∧ e.fader = f ∧ s.entriesOf f = [e] ∧ s.slotsOf f = noSlot := by
  cases hs.served with
  | free hm => simp [h, MotionState.free] at hm
  | driven _ _ hm => exact absurd (hm.symm.trans h) (SlotUse.motion_ne_waiting _)
  | waits e _ he hn =>
    obtain ⟨hmem, hf⟩ := State.mem_entriesOf.mp (he ▸ List.mem_singleton_self e)
    cases hf' : s.entryFor f with
    | none => exact absurd hf (State.entryFor_none hf' e hmem)
    | some d =>
      have : d ∈ s.entriesOf f := State.mem_entriesOf.mpr (State.entryFor_some hf')
      rw [he, List.mem_singleton] at this
      exact ⟨d, rfl, (State.entryFor_some hf').2, this ▸ he, hn⟩

theorem State.SoundAt.driven_of {s : State} {f : FaderId} (hs : s.SoundAt f)
    (h : (s.fader f).motion = .moving ∨ (s.fader f).motion = .holding ∨ (s.fader f).motion = .homing) :
    ∃ i sl, s.slotFor f = some (i, sl) ∧ s.slot i = some sl ∧ sl.fader = f ∧ (s.fader f).motion = sl.use.motion ∧
      s.entriesOf f = [] ∧ s.slotsOf f = onlySlot i sl := by
  cases hs.served with
  | free hm => rcases h with h | h | h <;> simp [h, MotionState.free] at hm
  | waits _ hm => rcases h with h | h | h <;> simp [h] at hm
  | driven i sl hm he hn =>
    obtain ⟨hi, hf⟩ := State.slot_of_onlySlot hn
    exact ⟨i, sl, State.slotFor_eq_some hn, hi, hf, hm, he, hn⟩

/-! ### The invariants of the statements, fader by fader -/

theorem State.soundAt_of_owned {s : State} (h : s.owned) (ha : s.absentOk) (hh : s.heldFree) :
    s.Sound := by
  intro f
  have hslots : (∀ u : SlotUse, (s.fader f).motion ≠ u.motion) → s.slotsOf f = noSlot := by
    intro hu
    funext i
    refine Option.filter_eq_none_iff.mpr fun sl hi => ?_
    simpa using s.no_slot_of_undriven h hu i sl hi
  have hentries : (s.fader f).motion ≠ .waiting → s.entriesOf f = [] := fun hw =>
    List.filter_eq_nil_iff.mpr fun e he => by simpa using s.no_entry_of_not_waiting h hw e he
  refine ⟨?_, (ha f).1, (ha f).2, ?_⟩
  · cases hm : (s.fader f).motion with
    | waiting =>
      obtain ⟨e, he, hf⟩ := List.mem_map.mp (h.waitingHasEntry f hm)
      refine .waits e hm ?_ (hslots fun u hu => SlotUse.motion_ne_waiting u (hu.symm.trans hm))
      obtain ⟨l, r, hl⟩ := List.append_of_mem he
      have hnd := h.oneEntry
      rw [hl, List.map_append, List.map_cons] at hnd
      have hd := List.nodup_middle.mp hnd
      simp only [List.nodup_cons, List.mem_append, List.mem_map, not_or, not_exists, not_and] at hd
      have hleft : l.filter (fun d => decide (d.fader = f)) = [] :=
        List.filter_eq_nil_iff.mpr fun x hx => by simpa [hf] using hd.1.1 x hx
      have hright : r.filter (fun d => decide (d.fader = f)) = [] :=
        List.filter_eq_nil_iff.mpr fun x hx => by simpa [hf] using hd.1.2 x hx
      simp [State.entriesOf, hl, hf, hleft, hright]
    | absent | unhomed | idle | faulted =>
      refine .free (by rw [hm]; rfl) (hentries (by simp [hm])) (hslots fun u hu => ?_)
      have := SlotUse.motion_free u
      rw [← hu, hm] at this
      cases this
    | moving | holding | homing =>
      obtain ⟨i, sl, -, hi, hf, hu, -⟩ := s.driven_slot h (f := f) (by simp [hm])
      refine .driven i sl hu (hentries (by simp [hm])) ?_
      funext j
      by_cases hij : j = i
      · subst hij; simp [State.slotsOf, hi, hf, onlySlot]
      · rw [onlySlot, Function.update_of_ne hij]
        refine Option.filter_eq_none_iff.mpr fun sl' hj => ?_
        have : sl'.fader ≠ f := fun hf' => hij (s.slot_unique h hj hi (hf'.trans hf.symm))
        simpa using this
  · by_cases hfree : (s.fader f).motion.free = true
    · exact .inl hfree
    · have := mt (hh f) hfree
      simp only [not_or, Bool.not_eq_true] at this
      exact .inr ⟨this.1, this.2.1, this.2.2⟩

theorem State.Sound.owned {s : State} (h : s.Sound) : s.owned where
  oneEntry := by
    refine List.nodup_iff_count_le_one.mpr fun f => ?_
    have hc : (s.queue.entries.map Entry.fader).count f = (s.entriesOf f).length := by
      rw [List.count, List.countP_map, List.countP_eq_length_filter]
      exact congrArg List.length (List.filter_congr fun e _ => beq_eq_decide ..)
    rw [hc]
    cases (h f).served <;> simp_all
  entryWaits e he := ((h e.fader).waits_of_entry he).1
  waitingHasEntry f hf := by
    obtain ⟨e, he, hef, -⟩ := (h f).waiting_of hf
    exact List.mem_map.mpr ⟨e, (State.entryFor_some he).1, hef⟩
  slotMoves i := by
    cases hi : s.slot i with
    | none => rfl
    | some sl => simp [((h sl.fader).driven_of_slot hi).1]
  oneSlot i j hij := by
    cases hi : s.slot i with
    | none => exact .inl rfl
    | some sl =>
      refine .inr fun he => ?_
      obtain ⟨sl', hj, hf⟩ := Option.map_eq_some_iff.mp he.symm
      have h1 := ((h sl.fader).driven_of_slot hi).2.2
      have h2 : s.slotsOf sl.fader j = some sl' := State.slotsOf_eq_some.mpr ⟨hj, hf⟩
      rw [h1, onlySlot_eq_some] at h2
      exact hij h2.1.symm
  movingHasSlot f hf := by
    obtain ⟨i, sl, -, hi, hfe, -⟩ := (h f).driven_of hf
    exact ⟨i, by simp [hi, hfe]⟩

theorem State.Sound.absentOk {s : State} (h : s.Sound) : s.absentOk :=
  fun f => ⟨(h f).absent, (h f).gone⟩

theorem State.Sound.heldFree {s : State} (h : s.Sound) : s.heldFree := by
  intro f hf
  rcases (h f).servable with hfree | ⟨hu, he, hb⟩
  · exact hfree
  · simp [hu, he, hb] at hf

end Sys2Proof.Machine
end

section
/-! An action on some faders, in the terms of the invariants: it keeps what holds of every fader, and changes a fader it is
not about by a decision of the arbiter only. -/

namespace Sys2Proof.Machine

/-! ### What a step keeps of one fader -/

/-- From `s` to `t` the invariants of a fader are kept. -/
structure State.Kept (s t : State) (f : FaderId) : Prop where
  sound : t.SoundAt f
  placed : s.PlacedAt f → t.PlacedAt f
  tracked : s.TrackedAt f → t.TrackedAt f
  pended : s.PendedAt f → t.PendedAt f

theorem State.Kept.trans {s t u : State} {f : FaderId} (h : s.Kept t f) (k : t.Kept u f) : s.Kept u f :=
  ⟨k.sound, k.placed ∘ h.placed, k.tracked ∘ h.tracked, k.pended ∘ h.pended⟩

/-- Two records that differ, of all that the invariants read, in motion state, per-mille and target position only. -/
structure Fader.Alike (x y : Fader) : Prop where
  touch : y.touch = x.touch
  stale : y.stale = x.stale
  inhibit : y.inhibit = x.inhibit
  pending : y.pendingTarget = x.pendingTarget
  raw : y.raw = x.raw
  low : y.cal.low = x.cal.low
  high : y.cal.high = x.cal.high

theorem State.onBay_congr {s t : State} (h : t.bays = s.bays) (f : FaderId) : t.onBay f = s.onBay f := by
  simp [State.onBay, State.bay, h]

theorem State.supplyFaulted_congr {s t : State} (h : t.bays = s.bays) (f : FaderId) :
    t.supplyFaulted f = s.supplyFaulted f := by
  simp [State.supplyFaulted, State.bay, h]

theorem Fader.held_congr {x y : Fader} (h : y.touch = x.touch) : y.held = x.held := by
  simp [Fader.held, h]

theorem Slot.ends_congr (sl : Slot) {c d : Calibration} (hl : d.low = c.low) (hh : d.high = c.high) :
    sl.ends d = sl.ends c := by
  simp only [Slot.ends, hl, hh]

theorem Slot.setpointOk_congr (sl : Slot) {c d : Calibration} (hl : d.low = c.low) (hh : d.high = c.high) :
    sl.setpointOk d = sl.setpointOk c := by
  simp only [Slot.setpointOk, sl.ends_congr hl hh]

/-- A fader whose record is alike and that is served again, Absent only if it was, and served only where it may be, is as
sound as before. -/
theorem State.SoundAt.of_alike {s t : State} {f : FaderId} (hs : s.SoundAt f) (hb : t.bays = s.bays)
    (ha : (s.fader f).Alike (t.fader f)) (hserved : t.Served f)
    (habs : (t.fader f).motion = .absent ↔ (s.fader f).motion = .absent)
    (hfree : (s.fader f).motion.free = true → (t.fader f).motion.free = true ∨ s.Servable f) : t.SoundAt f where
  served := hserved
  absent := by rw [habs, hs.absent, State.onBay_congr hb]
  gone h := by rw [ha.touch, ha.stale]; exact hs.gone (habs.mp h)
  servable := by
    have hserv : s.Servable f → t.Servable f := fun h =>
      ⟨by rw [Fader.held_congr ha.touch]; exact h.untouched, by rw [ha.inhibit]; exact h.enabled,
        by rw [State.supplyFaulted_congr hb]; exact h.supplied⟩
    rcases hs.servable with h | h
    · exact (hfree h).imp_right hserv
    · exact .inr (hserv h)

/-- A fader whose record is alike has its pending target as before. -/
theorem State.PendedAt.of_alike {s t : State} {f : FaderId} (h : s.PendedAt f) (ha : (s.fader f).Alike (t.fader f)) :
    t.PendedAt f := fun hp => by
  rw [Fader.held_congr ha.touch]; exact h (ha.pending ▸ hp)

/-- A fader whose record is alike, with its slots and its two per-mille in range again, is placed as before. -/
theorem State.PlacedAt.of_alike {s t : State} {f : FaderId} (hp : s.PlacedAt f) (hl : t.law = s.law)
    (hg : t.setup = s.setup) (ha : (s.fader f).Alike (t.fader f))
    (hslots : ∀ i sl, t.slotsOf f i = some sl → sl.setpointOk (s.fader f).cal = true)
    (hpos : (t.fader f).perMille ≤ 1000) (htarget : (t.fader f).targetPos ≤ 1000) : t.PlacedAt f where
  taper := hl ▸ hp.taper
  span := hg ▸ hp.span
  cal := by unfold Calibration.ok; rw [ha.low, ha.high]; exact hp.cal
  slots i sl h := by rw [sl.setpointOk_congr ha.low ha.high]; exact hslots i sl h
  inRange := ⟨ha.raw ▸ hp.inRange.1, hpos, htarget⟩

/-! ### A decision of the arbiter, seen at one fader -/

/-- What the arbiter's decisions make of a fader record: nothing, a grant to a Waiting fader, or the end of a hold by
pre-emption (R43, R44, R45, R61). -/
inductive ByArbiter (x : Fader) : Fader → Prop
  | same : ByArbiter x x
  | move (h : x.motion = .waiting) : ByArbiter x { x with motion := .moving }
  | home (h : x.motion = .waiting) : ByArbiter x { x with motion := .homing, cls := .home, tag := 0 }
  | hold (h : x.motion = .holding) : ByArbiter x { x with motion := .idle, offTarget := false }

theorem ByArbiter.trans {x y z : Fader} (h : ByArbiter x y) (k : ByArbiter y z) : ByArbiter x z := by
  cases h with
  | same => exact k
  | move h | home h | hold h => cases k with
    | same => constructor; exact h
    | move h' | home h' | hold h' => cases h'

theorem ByArbiter.raw {x y : Fader} (h : ByArbiter x y) : y.raw = x.raw := by cases h <;> rfl

/-- A fader that nothing serves is not changed by the arbiter. -/
theorem ByArbiter.eq_of_free {x y : Fader} (h : ByArbiter x y) (hf : x.motion.free = true) : y = x := by
  cases h with
  | same => rfl
  | move h | home h | hold h => simp [h, MotionState.free] at hf

/-! ### Actions on some faders -/

/-- The pending flags of the two events that a bay's link raises (R133, R138). -/
def State.linkEvents (s : State) : Bool × Bool :=
  (s.attn.events.supplyFault, s.attn.events.bayJoined)

theorem State.raise_linkEvents (s : State) {e : EventSource} (h : e ≠ .supplyFault ∧ e ≠ .bayJoined) :
    (s.raise e).linkEvents = s.linkEvents := by
  obtain ⟨h1, h2⟩ := h
  cases e <;> [rfl; rfl; rfl; rfl; rfl; exact absurd rfl h2; rfl; exact absurd rfl h1]

/-- From `s` to `t` something is done with the faders of `P`: every fader's invariants, raw position and stale flag are kept,
a fader outside `P` changes by the arbiter only, with no completion, and no event of a link is raised. -/
structure Acts (P : Set FaderId) (s t : State) : Prop where
  kept : ∀ g, s.Kept t g
  raw : ∀ g, (t.fader g).raw = (s.fader g).raw
  stale : ∀ g, (t.fader g).stale = (s.fader g).stale
  record : ∀ g, g ∉ P → ByArbiter (s.fader g) (t.fader g)
  records : ∀ g, g ∉ P → t.recordsOf g = s.recordsOf g
  link : t.linkEvents = s.linkEvents

theorem Acts.sound {P : Set FaderId} {s t : State} (h : Acts P s t) : t.Sound :=
  fun g => (h.kept g).sound

theorem Acts.refl {P : Set FaderId} {s : State} (hs : s.Sound) : Acts P s s :=
  ⟨fun g => ⟨hs g, id, id, id⟩, fun _ => rfl, fun _ => rfl, fun _ _ => .same, fun _ _ => rfl, rfl⟩

theorem Acts.trans {P : Set FaderId} {s t u : State} (h : Acts P s t) (k : Acts P t u) : Acts P s u :=
  ⟨fun g => (h.kept g).trans (k.kept g), fun g => (k.raw g).trans (h.raw g), fun g => (k.stale g).trans (h.stale g),
    fun g hg => (h.record g hg).trans (k.record g hg), fun g hg => (k.records g hg).trans (h.records g hg),
    k.link.trans h.link⟩

theorem Acts.mono {P Q : Set FaderId} {s t : State} (h : Acts P s t) (hPQ : P ⊆ Q) : Acts Q s t :=
  ⟨h.kept, h.raw, h.stale, fun g hg => h.record g (mt (@hPQ g) hg), fun g hg => h.records g (mt (@hPQ g) hg),
    h.link⟩

/-- A fold of actions on faders of one set is one. -/
theorem Acts.foldl {α : Type} {P : Set FaderId} {act : State → α → State} {l : List α} {s : State} (hs : s.Sound)
    (h : ∀ (t : State) a, a ∈ l → t.Sound → Acts P t (act t a)) : Acts P s (l.foldl act s) := by
  induction l generalizing s with
  | nil => exact .refl hs
  | cons a rest ih =>
    have h1 := h s a List.mem_cons_self hs
    exact h1.trans (ih h1.sound fun t b hb => h t b (List.mem_cons_of_mem _ hb))

/-! ### Actions on one fader that leave every other as it is -/

/-- All that the invariants read of a fader is the same in two states. -/
structure State.SameAt (s t : State) (g : FaderId) : Prop where
  fader : t.fader g = s.fader g
  entries : t.entriesOf g = s.entriesOf g
  slots : t.slotsOf g = s.slotsOf g

theorem State.SameAt.served {s t : State} {g : FaderId} (h : s.SameAt t g) (hs : s.Served g) : t.Served g := by
  cases hs with
  | free hm he hn => exact .free (h.fader ▸ hm) (h.entries.trans he) (h.slots.trans hn)
  | waits e hm he hn => exact .waits e (h.fader ▸ hm) (h.entries.trans he) (h.slots.trans hn)
  | driven i sl hm he hn => exact .driven i sl (h.fader ▸ hm) (h.entries.trans he) (h.slots.trans hn)

/-- The calibration in force is that of the slots and the record. -/
theorem State.SoundAt.calInForce_congr {s t : State} {g : FaderId} (hs : s.SoundAt g) (hslots : t.slotsOf g = s.slotsOf g)
    (hl : (t.fader g).cal.low = (s.fader g).cal.low) (hh : (t.fader g).cal.high = (s.fader g).cal.high) :
    t.calInForce g = s.calInForce g := by
  have hn : s.slotsOf g = noSlot → t.calInForce g = s.calInForce g := fun h => by
    rw [State.calInForce_of_noSlot h, State.calInForce_of_noSlot (hslots.trans h), hl, hh]
  cases hs.served with
  | free _ _ h => exact hn h
  | waits _ _ _ h => exact hn h
  | driven i sl _ _ h =>
    rw [State.calInForce_of_onlySlot h, State.calInForce_of_onlySlot (hslots.trans h), sl.ends_congr hl hh]

theorem State.SameAt.kept {s t : State} {g : FaderId} (h : s.SameAt t g) (hb : t.bays = s.bays) (hl : t.law = s.law)
    (hg : t.setup = s.setup) (hs : s.SoundAt g) : s.Kept t g := by
  have ha : (s.fader g).Alike (t.fader g) := by rw [h.fader]; constructor <;> rfl
  refine ⟨hs.of_alike hb ha (h.served hs.served) (by rw [h.fader]) (fun hf => .inl (by rwa [h.fader])), fun hp => ?_,
    fun ht => ?_, fun hpe => hpe.of_alike ha⟩
  · exact hp.of_alike hl hg ha (by rw [h.slots]; exact hp.slots) (by rw [h.fader]; exact hp.inRange.2.1)
      (by rw [h.fader]; exact hp.inRange.2.2)
  · unfold State.TrackedAt
    rw [hs.calInForce_congr h.slots ha.low ha.high, h.fader]
    exact ht

/-- From `s` to `t` something is done with one fader, and with nothing else that the invariants read. -/
structure OnlyAt (f : FaderId) (s t : State) : Prop where
  frame : MotionFrame s t
  others : ∀ g, g ≠ f → s.SameAt t g
  records : ∀ g, g ≠ f → t.recordsOf g = s.recordsOf g
  link : t.linkEvents = s.linkEvents

theorem OnlyAt.refl {f : FaderId} (s : State) : OnlyAt f s s :=
  ⟨.refl s, fun _ _ => ⟨rfl, rfl, rfl⟩, fun _ _ => rfl, rfl⟩

theorem OnlyAt.trans {f : FaderId} {s t u : State} (h : OnlyAt f s t) (k : OnlyAt f t u) : OnlyAt f s u where
  frame := h.frame.trans k.frame
  others g hg :=
    let a := h.others g hg
    let b := k.others g hg
    ⟨b.fader.trans a.fader, b.entries.trans a.entries, b.slots.trans a.slots⟩
  records g hg := (k.records g hg).trans (h.records g hg)
  link := k.link.trans h.link

theorem OnlyAt.modFader (s : State) (f : FaderId) (h : Fader → Fader) : OnlyAt f s (s.modFader f h) where
  frame := .modFader ..
  others _ hg := ⟨State.modFader_fader_ne s h hg.symm, rfl, rfl⟩
  records _ _ := rfl
  link := rfl

theorem OnlyAt.setSlot {s : State} {i : SlotId} {o : Option Slot} {f : FaderId}
    (h : ∀ sl, s.slot i = some sl → sl.fader = f) (h' : ∀ sl, o = some sl → sl.fader = f) : OnlyAt f s (s.setSlot i o) where
  frame := .setSlot ..
  others _ hg :=
    ⟨rfl, rfl, State.setSlot_slotsOf_other (fun sl hsl e => hg (e.symm.trans (h sl hsl)))
      (fun sl hsl e => hg (e.symm.trans (h' sl hsl)))⟩
  records _ _ := rfl
  link := rfl

/-- An occupied slot is freed. -/
theorem OnlyAt.freeSlot {s : State} {i : SlotId} {sl : Slot} (h : s.slot i = some sl) :
    OnlyAt sl.fader s (s.setSlot i none) :=
  .setSlot (fun sl' h' => by rw [h] at h'; cases h'; rfl) (by simp)

/-- An occupied slot takes new contents for its fader. -/
theorem OnlyAt.reSlot {s : State} {i : SlotId} {sl sl' : Slot} (h : s.slot i = some sl) (hf : sl'.fader = sl.fader) :
    OnlyAt sl.fader s (s.setSlot i (some sl')) :=
  .setSlot (fun a ha => by rw [h] at ha; cases ha; rfl) (fun a ha => by cases ha; exact hf)

theorem OnlyAt.complete (s : State) (f : FaderId) (o : EndOutcome) (k : SkipCause) (c : ReqClass) (t : Tag) (m : Marks) :
    OnlyAt f s (s.complete f o k c t m) where
  frame := .complete ..
  others _ _ := ⟨rfl, rfl, rfl⟩
  records _ hg := s.complete_recordsOf_ne o k c t m hg
  link := rfl

theorem OnlyAt.raise (s : State) (f : FaderId) {e : EventSource} (h : e ≠ .supplyFault ∧ e ≠ .bayJoined) :
    OnlyAt f s (s.raise e) where
  frame := .raise ..
  others _ _ := ⟨rfl, rfl, rfl⟩
  records _ _ := rfl
  link := s.raise_linkEvents h

theorem OnlyAt.removeEntry (s : State) (f : FaderId) : OnlyAt f s (s.removeEntry f) where
  frame := .removeEntry ..
  others _ hg := ⟨rfl, s.removeEntry_entriesOf_ne hg, rfl⟩
  records _ _ := rfl
  link := rfl

theorem OnlyAt.replaceEntry (s : State) (e : Entry) : OnlyAt e.fader s (s.replaceEntry e) where
  frame := .replaceEntry ..
  others _ hg := ⟨rfl, s.replaceEntry_entriesOf_ne e hg, rfl⟩
  records _ _ := rfl
  link := rfl

theorem OnlyAt.joinQueue (s : State) (f : FaderId) (k : EntryKind) (c : ReqClass) (t : Tag) (r : Nat) (m : Marks) :
    OnlyAt f s (s.joinQueue f k c t r m) where
  frame := .joinQueue ..
  others _ hg := ⟨State.modFader_fader_ne s (fun x => { x with motion := .waiting }) hg.symm, s.joinQueue_entriesOf_ne k c t r m hg, rfl⟩
  records _ _ := rfl
  link := rfl

theorem OnlyAt.refreshPerMille (s : State) (f : FaderId) : OnlyAt f s (s.refreshPerMille f) := by
  unfold State.refreshPerMille; exact .modFader ..

/-- What is done with one fader and keeps its invariants is an action on it. -/
theorem OnlyAt.acts {f : FaderId} {s t : State} (h : OnlyAt f s t) (hs : s.Sound) (hk : s.Kept t f)
    (hr : (t.fader f).raw = (s.fader f).raw) (hst : (t.fader f).stale = (s.fader f).stale) : Acts {f} s t where
  kept g := by
    by_cases hg : g = f
    · subst hg; exact hk
    · exact (h.others g hg).kept h.frame.bays h.frame.law h.frame.setup (hs g)
  raw g := by
    by_cases hg : g = f
    · subst hg; exact hr
    · rw [(h.others g hg).fader]
  stale g := by
    by_cases hg : g = f
    · subst hg; exact hst
    · rw [(h.others g hg).fader]
  record g hg := by rw [(h.others g hg).fader]; exact .same
  records g hg := h.records g hg
  link := h.link

/-! ### The kinds of action on one fader -/

/-- A change of the record alone, in what the invariants do not read but for the target position. -/
theorem OnlyAt.acts_edit {f : FaderId} {s t : State} (h : OnlyAt f s t) (hs : s.Sound)
    (ha : (s.fader f).Alike (t.fader f)) (hm : (t.fader f).motion = (s.fader f).motion)
    (hp : (t.fader f).perMille = (s.fader f).perMille) (he : t.entriesOf f = s.entriesOf f)
    (hn : t.slotsOf f = s.slotsOf f) (ht : s.PlacedAt f → (t.fader f).targetPos ≤ 1000) : Acts {f} s t := by
  have hserved : t.Served f := by
    cases (hs f).served with
    | free m e n => exact .free (hm ▸ m) (he.trans e) (hn.trans n)
    | waits d m e n => exact .waits d (hm.trans m) (he.trans e) (hn.trans n)
    | driven i sl m e n => exact .driven i sl (hm.trans m) (he.trans e) (hn.trans n)
  refine h.acts hs ⟨(hs f).of_alike h.frame.bays ha hserved (by rw [hm]) (fun hf => .inl (hm ▸ hf)), fun hpl => ?_,
    fun htr => ?_, fun hpe => hpe.of_alike ha⟩ ha.raw ha.stale
  · exact hpl.of_alike h.frame.law h.frame.setup ha (by rw [hn]; exact hpl.slots) (hp ▸ hpl.inRange.2.1) (ht hpl)
  · unfold State.TrackedAt
    rw [(hs f).calInForce_congr hn ha.low ha.high, hp, ha.raw]
    exact htr

/-- The part's hold on a fader ends: no entry, no slot, and a motion state that is free but not Absent. -/
theorem OnlyAt.acts_end {f : FaderId} {s t : State} (h : OnlyAt f s t) (hs : s.Sound)
    (ha : (s.fader f).Alike (t.fader f)) (hwas : (s.fader f).motion ≠ .absent) (hfree : (t.fader f).motion.free = true)
    (hnot : (t.fader f).motion ≠ .absent) (he : t.entriesOf f = []) (hn : t.slotsOf f = noSlot)
    (ht : (t.fader f).targetPos = (s.fader f).targetPos) (hp : s.PlacedAt f → (t.fader f).perMille ≤ 1000)
    (hpm : s.TrackedAt f → (t.fader f).perMille =
      perMilleOfRaw (s.fader f).cal.low (s.fader f).cal.high (s.fader f).raw) : Acts {f} s t := by
  refine h.acts hs ⟨(hs f).of_alike h.frame.bays ha (.free hfree he hn) (iff_of_false hnot hwas) (fun _ => .inl hfree),
    fun hpl => ?_, fun htr => ?_, fun hpe => hpe.of_alike ha⟩ ha.raw ha.stale
  · exact hpl.of_alike h.frame.law h.frame.setup ha (by simp [hn, noSlot]) (hp hpl) (ht ▸ hpl.inRange.2.2)
  · unfold State.TrackedAt
    rw [State.calInForce_of_noSlot hn, ha.low, ha.high, ha.raw]
    exact hpm htr

/-- A driven fader is driven on in a slot, with sound ends. -/
theorem OnlyAt.acts_drive {f : FaderId} {s t : State} {i : SlotId} {sl : Slot} (h : OnlyAt f s t) (hs : s.Sound)
    (ha : (s.fader f).Alike (t.fader f)) (hwas : (s.fader f).motion.free = false)
    (hm : (t.fader f).motion = sl.use.motion) (he : t.entriesOf f = []) (hn : t.slotsOf f = onlySlot i sl)
    (ht : s.PlacedAt f → (t.fader f).targetPos ≤ 1000) (hp : s.PlacedAt f → (t.fader f).perMille ≤ 1000)
    (hsl : s.PlacedAt f → sl.setpointOk (s.fader f).cal = true)
    (hpm : s.TrackedAt f → (t.fader f).perMille =
      perMilleOfRaw (sl.ends (s.fader f).cal).1 (sl.ends (s.fader f).cal).2 (s.fader f).raw) : Acts {f} s t := by
  have hwas' : (s.fader f).motion ≠ .absent := fun e => by simp [e, MotionState.free] at hwas
  have hnot : (t.fader f).motion ≠ .absent := by simp [hm]
  refine h.acts hs ⟨(hs f).of_alike h.frame.bays ha (.driven i sl hm he hn) (iff_of_false hnot hwas')
    (fun hf => by simp [hwas] at hf), fun hpl => ?_, fun htr => ?_, fun hpe => hpe.of_alike ha⟩ ha.raw ha.stale
  · refine hpl.of_alike h.frame.law h.frame.setup ha (fun j sl' hj => ?_) (hp hpl) (ht hpl)
    rw [hn, onlySlot_eq_some] at hj
    rw [hj.2]
    exact hsl hpl
  · unfold State.TrackedAt
    rw [State.calInForce_of_onlySlot hn, ha.raw, sl.ends_congr ha.low ha.high]
    exact hpm htr

/-- A fader waits: its one entry is new or changed. -/
theorem OnlyAt.acts_wait {f : FaderId} {s t : State} {e : Entry} (h : OnlyAt f s t) (hs : s.Sound)
    (ha : (s.fader f).Alike (t.fader f)) (hwas : (s.fader f).motion ≠ .absent)
    (hfree : (s.fader f).motion.free = true → s.Servable f) (hm : (t.fader f).motion = .waiting)
    (he : t.entriesOf f = [e]) (hnone : s.slotsOf f = noSlot) (hn : t.slotsOf f = noSlot)
    (ht : (t.fader f).targetPos = (s.fader f).targetPos) (hp : (t.fader f).perMille = (s.fader f).perMille) :
    Acts {f} s t := by
  have hnot : (t.fader f).motion ≠ .absent := by simp [hm]
  refine h.acts hs ⟨(hs f).of_alike h.frame.bays ha (.waits e hm he hn) (iff_of_false hnot hwas)
    (fun hf => .inr (hfree hf)), fun hpl => ?_, fun htr => ?_, fun hpe => hpe.of_alike ha⟩ ha.raw ha.stale
  · exact hpl.of_alike h.frame.law h.frame.setup ha (by simp [hn, noSlot]) (hp ▸ hpl.inRange.2.1) (ht ▸ hpl.inRange.2.2)
  · unfold State.TrackedAt at htr ⊢
    rw [State.calInForce_of_noSlot hnone] at htr
    rw [State.calInForce_of_noSlot hn, ha.low, ha.high, ha.raw, hp]
    exact htr

/-! ### The raw mapping keeps the range -/

theorem perMilleOfRaw_le (low high raw : Nat) : perMilleOfRaw low high raw ≤ 1000 := by
  unfold perMilleOfRaw; omega

end Sys2Proof.Machine
end

section
/-! The ends of a fader's service and the arbiter's decisions are actions on faders (R28, R35, R37, R43, R45, R70, R77). -/

namespace Sys2Proof.Machine

/-! ### The calibration record and the per-mille of a fader outside Park -/

theorem State.TrackedAt.record_of_noSlot {s : State} {f : FaderId} (h : s.TrackedAt f) (hn : s.slotsOf f = noSlot) :
    (s.fader f).perMille = perMilleOfRaw (s.fader f).cal.low (s.fader f).cal.high (s.fader f).raw := by
  have := h
  rwa [State.TrackedAt, State.calInForce_of_noSlot hn] at this

theorem State.TrackedAt.ends_of_onlySlot {s : State} {f : FaderId} {i : SlotId} {sl : Slot} (h : s.TrackedAt f)
    (hn : s.slotsOf f = onlySlot i sl) :
    (s.fader f).perMille = perMilleOfRaw (sl.ends (s.fader f).cal).1 (sl.ends (s.fader f).cal).2 (s.fader f).raw := by
  have := h
  rwa [State.TrackedAt, State.calInForce_of_onlySlot hn] at this

theorem State.TrackedAt.record_of_onlySlot {s : State} {f : FaderId} {i : SlotId} {sl : Slot} (h : s.TrackedAt f)
    (hn : s.slotsOf f = onlySlot i sl) (hp : ¬(sl.use = .homing ∧ sl.phase = .park)) :
    (s.fader f).perMille = perMilleOfRaw (s.fader f).cal.low (s.fader f).cal.high (s.fader f).raw := by
  have := h.ends_of_onlySlot hn
  rwa [Slot.ends_of_not_park hp] at this

/-- A slot that is freed leaves its fader none. -/
theorem State.slotsOf_freeSlot {s : State} {f : FaderId} {i : SlotId} {sl : Slot} (h : s.slotsOf f = onlySlot i sl) :
    (s.setSlot i none).slotsOf f = noSlot := by
  simp [h]

/-- A slot that takes new contents for its fader leaves it that slot alone. -/
theorem State.slotsOf_reSlot {s : State} {f : FaderId} {i : SlotId} {sl sl' : Slot} (h : s.slotsOf f = onlySlot i sl)
    (hf : sl'.fader = f) : (s.setSlot i (some sl')).slotsOf f = onlySlot i sl' := by
  simp [h, hf, update_noSlot_some, Option.filter_some]

/-! ### Ends of a slot's use -/

theorem State.endMove_acts {s : State} (hs : s.Sound) {i : SlotId} {sl : Slot} (hi : s.slot i = some sl)
    (hu : sl.use = .moving) (o : EndOutcome) : Acts {sl.fader} s (s.endMove i sl o) := by
  obtain ⟨hm, he, hn⟩ := (hs sl.fader).driven_of_slot hi
  refine OnlyAt.acts_end (((OnlyAt.complete ..).trans (.freeSlot hi)).trans (.modFader ..)) hs ?_ (by simp [hm]) ?_ ?_
    (by simpa [State.endMove] using he) (by simp [State.endMove, hn]) (by simp [State.endMove])
    (fun hp => by simpa [State.endMove] using hp.inRange.2.1)
    (fun ht => by simpa [State.endMove] using ht.record_of_onlySlot hn (by simp [hu]))
  · constructor <;> simp [State.endMove]
  all_goals simp [State.endMove, MotionState.free]

theorem State.endHold_acts {s : State} (hs : s.Sound) {i : SlotId} {sl : Slot} (hi : s.slot i = some sl)
    (hu : sl.use = .holding) : Acts {sl.fader} s (s.endHold i sl) := by
  obtain ⟨hm, he, hn⟩ := (hs sl.fader).driven_of_slot hi
  refine OnlyAt.acts_end ((OnlyAt.freeSlot hi).trans (.modFader ..)) hs ?_ (by simp [hm]) ?_ ?_
    (by simpa [State.endHold] using he) (by simp [State.endHold, hn]) (by simp [State.endHold])
    (fun hp => by simpa [State.endHold] using hp.inRange.2.1)
    (fun ht => by simpa [State.endHold] using ht.record_of_onlySlot hn (by simp [hu]))
  · constructor <;> simp [State.endHold]
  all_goals simp [State.endHold, MotionState.free]

/-- A completion of a fader is an action on it. -/
theorem State.complete_acts {s : State} (hs : s.Sound) (f : FaderId) (o : EndOutcome) (k : SkipCause) (c : ReqClass)
    (t : Tag) (m : Marks) : Acts {f} s (s.complete f o k c t m) :=
  (OnlyAt.complete s f o k c t m).acts_edit hs (by constructor <;> rfl) rfl rfl rfl rfl fun hp => hp.inRange.2.2

theorem State.raise_acts {s : State} (hs : s.Sound) (P : Set FaderId) {e : EventSource}
    (h : e ≠ .supplyFault ∧ e ≠ .bayJoined) : Acts P s (s.raise e) where
  kept g := State.SameAt.kept ⟨rfl, rfl, rfl⟩ rfl rfl rfl (hs g)
  raw _ := rfl
  stale _ := rfl
  record _ _ := .same
  records _ _ := rfl
  link := s.raise_linkEvents h

theorem State.endHoldWith_acts {s : State} (hs : s.Sound) {i : SlotId} {sl : Slot} (hi : s.slot i = some sl)
    (hu : sl.use = .holding) (o : EndOutcome) : Acts {sl.fader} s (s.endHoldWith i sl o) :=
  have h := State.complete_acts hs sl.fader o .none sl.cls sl.tag sl.marks
  h.trans (State.endHold_acts h.sound hi hu)

/-- A homing's slot is freed: only its fader's per-mille changes beside, under the calibration record (R66, R70). -/
theorem State.dropHoming_only {s : State} {i : SlotId} {sl : Slot} (hi : s.slot i = some sl) :
    OnlyAt sl.fader s (s.dropHoming i sl) := by
  unfold State.dropHoming
  split
  · exact (OnlyAt.freeSlot hi).trans (.refreshPerMille ..)
  · exact .freeSlot hi

theorem State.dropHoming_fader {s : State} {i : SlotId} {sl : Slot} (hn : s.slotsOf sl.fader = onlySlot i sl) :
    (s.dropHoming i sl).fader sl.fader = { s.fader sl.fader with
      perMille := if sl.phase = .park then
        perMilleOfRaw (s.fader sl.fader).cal.low (s.fader sl.fader).cal.high (s.fader sl.fader).raw
      else (s.fader sl.fader).perMille } := by
  unfold State.dropHoming
  split
  · simp [State.refreshPerMille, State.calInForce_of_noSlot (State.slotsOf_freeSlot hn)]
  · rfl

theorem State.dropHoming_entriesOf (s : State) (i : SlotId) (sl : Slot) (f : FaderId) :
    (s.dropHoming i sl).entriesOf f = s.entriesOf f := by
  unfold State.dropHoming; split <;> simp [State.refreshPerMille]

theorem State.dropHoming_slotsOf {s : State} {i : SlotId} {sl : Slot} (hn : s.slotsOf sl.fader = onlySlot i sl) :
    (s.dropHoming i sl).slotsOf sl.fader = noSlot := by
  unfold State.dropHoming; split <;> simp [State.refreshPerMille, hn]

/-- A homing ends, in whatever way: its slot is dropped, and its fader's record is alike but for a motion state that is free. -/
theorem State.homing_acts_end {s t : State} {i : SlotId} {sl : Slot} (hs : s.Sound) (hi : s.slot i = some sl)
    (hu : sl.use = .homing) (h : OnlyAt sl.fader s t) (ha : (s.fader sl.fader).Alike (t.fader sl.fader))
    (hfree : (t.fader sl.fader).motion.free = true) (hnot : (t.fader sl.fader).motion ≠ .absent)
    (he : t.entriesOf sl.fader = (s.dropHoming i sl).entriesOf sl.fader)
    (hn : t.slotsOf sl.fader = (s.dropHoming i sl).slotsOf sl.fader)
    (ht : (t.fader sl.fader).targetPos = (s.fader sl.fader).targetPos)
    (hp : (t.fader sl.fader).perMille = ((s.dropHoming i sl).fader sl.fader).perMille) : Acts {sl.fader} s t := by
  obtain ⟨hm, hentries, hslots⟩ := (hs sl.fader).driven_of_slot hi
  rw [State.dropHoming_fader hslots] at hp
  refine h.acts_end hs ha (by simp [hm]) hfree hnot (he.trans (by rw [State.dropHoming_entriesOf, hentries]))
    (hn.trans (State.dropHoming_slotsOf hslots)) ht (fun hpl => ?_) (fun htr => ?_)
  · rw [hp]; dsimp only; split
    · exact perMilleOfRaw_le ..
    · exact hpl.inRange.2.1
  · rw [hp]; dsimp only; split
    · rfl
    · next hpark => exact htr.record_of_onlySlot hslots (by simp [hu, hpark])

theorem State.endHoming_acts {s : State} (hs : s.Sound) {i : SlotId} {sl : Slot} (hi : s.slot i = some sl)
    (hu : sl.use = .homing) (o : EndOutcome) : Acts {sl.fader} s (s.endHoming i sl o) := by
  have hx := State.dropHoming_fader ((hs sl.fader).driven_of_slot hi).2.2
  refine State.homing_acts_end hs hi hu (((State.dropHoming_only hi).trans (.complete ..)).trans (.modFader ..)) ?_ ?_ ?_
    rfl rfl ?_ ?_
  · constructor <;> simp [State.endHoming, hx]
  all_goals simp [State.endHoming, hx, Calibration.motion_free]

theorem State.endUse_acts {s : State} (hs : s.Sound) {i : SlotId} {sl : Slot} (hi : s.slot i = some sl) (o : EndOutcome) :
    Acts {sl.fader} s (s.endUse i sl o) := by
  unfold State.endUse
  split
  · next hu => exact State.endMove_acts hs hi hu o
  · next hu => exact State.endHoldWith_acts hs hi hu o
  · next hu => exact State.endHoming_acts hs hi hu o

/-! ### Ends of a fader's service -/

theorem State.leaveQueue_acts {s : State} (hs : s.Sound) {f : FaderId} (o : EndOutcome)
    (hw : (s.fader f).motion = .waiting) : Acts {f} s (s.leaveQueue f o) := by
  obtain ⟨e, he, -, -, hn⟩ := (hs f).waiting_of hw
  unfold State.leaveQueue
  rw [he]
  refine OnlyAt.acts_end (((OnlyAt.complete ..).trans (.removeEntry ..)).trans (.modFader ..)) hs ?_ (by simp [hw]) ?_ ?_
    ?_ ?_ ?_ (fun hp => ?_) (fun ht => ?_)
  · constructor <;> simp
  · simp [Calibration.motion_free]
  · simp
  · simp
  · simpa using hn
  · simp
  · simpa using hp.inRange.2.1
  · simpa using ht.record_of_noSlot hn

theorem State.endService_acts {s : State} (hs : s.Sound) (f : FaderId) (o : EndOutcome) :
    Acts {f} s (s.endService f o) := by
  unfold State.endService
  split
  · next hw => exact State.leaveQueue_acts hs o hw
  iterate 3
    · split
      · exact .refl hs
      · next h =>
        obtain ⟨hi, rfl⟩ := State.slotFor_some h
        exact State.endUse_acts hs hi o
  all_goals exact .refl hs

theorem State.abandon_acts {s : State} (hs : s.Sound) (f : FaderId) : Acts {f} s (s.abandon f) := by
  unfold State.abandon
  split
  · next hw => exact State.leaveQueue_acts hs _ hw
  iterate 3
    · split
      · exact .refl hs
      · next h =>
        obtain ⟨hi, rfl⟩ := State.slotFor_some h
        split
        · next hu => exact State.endMove_acts hs hi hu _
        · next hu => exact State.endHold_acts hs hi hu
        · next hu => exact State.endHoming_acts hs hi hu _
  all_goals exact .refl hs

end Sys2Proof.Machine
end

section
/-! Rounding to the nearest (R11, R12, R13), and the raw mapping between the ends of a calibration. -/

namespace Sys2Proof.Machine

/-! ### Rounding a quotient to the nearest, halves upward -/

theorem roundHalfUp_bounds (n : Int) {d : Int} (hd : 0 < d) :
    2 * n - d < 2 * (roundHalfUp n d * d) ∧ 2 * (roundHalfUp n d * d) ≤ 2 * n + d := by
  unfold roundHalfUp
  have h1 := Int.mul_ediv_add_emod (2 * n + d) (2 * d)
  have h2 := Int.emod_nonneg (2 * n + d) (show 2 * d ≠ 0 by omega)
  have h3 := Int.emod_lt_of_pos (2 * n + d) (show 0 < 2 * d by omega)
  have h4 : 2 * d * ((2 * n + d) / (2 * d)) = 2 * ((2 * n + d) / (2 * d) * d) := by ring
  omega

theorem roundHalfUp_mono {n m d : Int} (hd : 0 < d) (h : n ≤ m) : roundHalfUp n d ≤ roundHalfUp m d :=
  Int.ediv_le_ediv (by omega) (by omega)

theorem roundHalfUp_mul (k : Int) {d : Int} (hd : 0 < d) : roundHalfUp (k * d) d = k := by
  unfold roundHalfUp
  have h : 2 * (k * d) + d = d + k * (2 * d) := by ring
  rw [h, Int.add_mul_ediv_right _ _ (by omega), Int.ediv_eq_zero_of_lt (by omega) (by omega), zero_add]

theorem le_roundHalfUp {k n d : Int} (hd : 0 < d) (h : k * d ≤ n) : k ≤ roundHalfUp n d := by
  have := roundHalfUp_mono hd h
  rwa [roundHalfUp_mul k hd] at this

theorem roundHalfUp_le {k n d : Int} (hd : 0 < d) (h : n ≤ k * d) : roundHalfUp n d ≤ k := by
  have := roundHalfUp_mono hd h
  rwa [roundHalfUp_mul k hd] at this

@[simp] theorem roundHalfUp_zero (d : Int) (hd : 0 < d) : roundHalfUp 0 d = 0 := by
  simpa using roundHalfUp_mul 0 hd

/-! ### Per-mille to raw -/

/-- What the raw mapping adds to the low end, as a number of counts. -/
theorem rawOfPerMille_eq {low high pos : Nat} (h : low ≤ high) :
    (rawOfPerMille low high pos : Int) = low + roundHalfUp ((pos : Int) * ((high : Int) - low)) 1000 := by
  have : 0 ≤ roundHalfUp ((pos : Int) * ((high : Int) - low)) 1000 :=
    le_roundHalfUp (by omega) (by rw [zero_mul]; exact mul_nonneg (by omega) (by omega))
  rw [rawOfPerMille, Int.toNat_of_nonneg (by omega)]

theorem rawOfPerMille_mono {low high p q : Nat} (h : low ≤ high) (hpq : p ≤ q) :
    rawOfPerMille low high p ≤ rawOfPerMille low high q := by
  have hm : (p : Int) * ((high : Int) - low) ≤ q * ((high : Int) - low) :=
    mul_le_mul_of_nonneg_right (by omega) (by omega)
  have := roundHalfUp_mono (d := 1000) (by omega) hm
  have := rawOfPerMille_eq (pos := p) h
  have := rawOfPerMille_eq (pos := q) h
  omega

@[simp] theorem rawOfPerMille_zero (low high : Nat) : rawOfPerMille low high 0 = low := by
  simp [rawOfPerMille]

theorem rawOfPerMille_full {low high : Nat} (h : low ≤ high) : rawOfPerMille low high 1000 = high := by
  have h1 := rawOfPerMille_eq (pos := 1000) h
  have h2 : ((1000 : Nat) : Int) * ((high : Int) - low) = ((high : Int) - low) * 1000 := by push_cast; ring
  rw [h2, roundHalfUp_mul _ (by omega)] at h1
  omega

theorem le_rawOfPerMille {low high : Nat} (h : low ≤ high) (pos : Nat) : low ≤ rawOfPerMille low high pos := by
  simpa using rawOfPerMille_mono h (Nat.zero_le pos)

theorem rawOfPerMille_le {low high pos : Nat} (h : low ≤ high) (hp : pos ≤ 1000) : rawOfPerMille low high pos ≤ high := by
  simpa [rawOfPerMille_full h] using rawOfPerMille_mono h hp

end Sys2Proof.Machine
end

section
/-! The arbiter's decisions (R43, R44, R45) and target requests (R14 to R18) are actions on faders. -/

namespace Sys2Proof.Machine

/-! ### Setpoint and target between the ends of a slot -/

/-- What `Slot.setpointOk` says of a slot that the servo moves or holds (R50, R67). -/
theorem Slot.setpointOk_iff {sl : Slot} {c : Calibration} (h : ¬(sl.use = .homing ∧ sl.phase ≠ .park)) :
    sl.setpointOk c = true ↔ (sl.ends c).1 < (sl.ends c).2 ∧ (sl.ends c).2 ≤ 4095 ∧ (sl.ends c).1 ≤ sl.setpoint ∧
      sl.setpoint ≤ (sl.ends c).2 ∧ (sl.ends c).1 ≤ sl.targetRaw ∧ sl.targetRaw ≤ (sl.ends c).2 := by
  simp only [Slot.setpointOk, if_neg h, Bool.and_eq_true, decide_eq_true_eq, and_assoc]

/-- A homing in Down or Up has no ends to lie between (R61). -/
theorem Slot.setpointOk_of_seeking {sl : Slot} {c : Calibration} (h : sl.use = .homing ∧ sl.phase ≠ .park) :
    sl.setpointOk c = true :=
  if_pos h

/-- A slot outside homing, with setpoint and target between the ends of the record (R50). -/
theorem Slot.setpointOk_of_record {sl : Slot} {c : Calibration} (hu : sl.use ≠ .homing) (hc : c.ok)
    (h1 : c.low ≤ sl.setpoint) (h2 : sl.setpoint ≤ c.high) (h3 : c.low ≤ sl.targetRaw) (h4 : sl.targetRaw ≤ c.high) :
    sl.setpointOk c = true := by
  rw [Slot.setpointOk_iff (fun h => hu h.1), Slot.ends_of_not_park (fun h => hu h.1)]
  exact ⟨hc.1, hc.2, h1, h2, h3, h4⟩

/-! ### The arbiter -/

/-- An action on one fader that the arbiter may make of it is the arbiter's. -/
theorem Acts.of_arbiter {f : FaderId} {s t : State} (h : Acts {f} s t) (hb : ByArbiter (s.fader f) (t.fader f))
    (hr : t.recordsOf f = s.recordsOf f) : Acts ∅ s t where
  kept := h.kept
  raw := h.raw
  stale := h.stale
  record g _ := by
    by_cases hg : g = f
    · subst hg; exact hb
    · exact h.record g hg
  records g _ := by
    by_cases hg : g = f
    · subst hg; exact hr
    · exact h.records g hg
  link := h.link

theorem State.moveSlot_setpointOk {s : State} {e : Entry} (hp : s.PlacedAt e.fader) :
    (s.moveSlot e).setpointOk (s.fader e.fader).cal = true := by
  have hc := hp.cal
  have hle : (s.fader e.fader).cal.low ≤ (s.fader e.fader).cal.high := hc.1.le
  refine Slot.setpointOk_of_record (by simp [State.moveSlot]) hc ?_ ?_ (le_rawOfPerMille hle _)
    (rawOfPerMille_le hle hp.inRange.2.2)
  · exact le_max_left ..
  · exact max_le hle (min_le_left ..)

/-- A grant of a slot to an entry that waits (R44, R61). -/
theorem State.grantTo_acts {s : State} (hs : s.Sound) {i : SlotId} {e : Entry} (he : e ∈ s.queue.entries)
    (hi : s.slot i = none) : Acts ∅ s (s.grantTo i e) := by
  obtain ⟨hm, hen, hn⟩ := (hs e.fader).waits_of_entry he
  have honly : ∀ sl : Slot, sl.fader = e.fader → OnlyAt e.fader s ((s.removeEntry e.fader).setSlot i (some sl)) :=
    fun sl hf => (OnlyAt.removeEntry ..).trans (.setSlot (by simp [hi]) (by simp [hf]))
  cases hk : e.kind with
  | move =>
    refine Acts.of_arbiter (f := e.fader)
      (OnlyAt.acts_drive (i := i) (sl := s.moveSlot e) ?_ hs ?_ (by rw [hm]; rfl) ?_ ?_ ?_ ?_ ?_ ?_ ?_) ?_ ?_
    · simp only [State.grantTo, hk]; exact (honly (s.moveSlot e) rfl).trans (.modFader ..)
    · constructor <;> simp [State.grantTo, hk]
    · simp [State.grantTo, hk, State.moveSlot, SlotUse.motion]
    · simp [State.grantTo, hk]
    · simp [State.grantTo, hk, hn, State.moveSlot, Option.filter_some, update_noSlot_some]
    · intro hp; simpa [State.grantTo, hk] using hp.inRange.2.2
    · intro hp; simpa [State.grantTo, hk] using hp.inRange.2.1
    · exact State.moveSlot_setpointOk
    · intro ht
      rw [Slot.ends_of_not_park (by simp [State.moveSlot])]
      simpa [State.grantTo, hk] using ht.record_of_noSlot hn
    · simp only [State.grantTo, hk, State.modFader_fader_self]; exact .move hm
    · simp [State.grantTo, hk]
  | home =>
    refine Acts.of_arbiter (f := e.fader)
      (OnlyAt.acts_drive (i := i) (sl := homingSlot e.fader e.ramp e.marks (s.fader e.fader).raw) ?_ hs ?_
        (by rw [hm]; rfl) ?_ ?_ ?_ ?_ ?_ ?_ ?_) ?_ ?_
    · simp only [State.grantTo, hk]; exact (honly _ rfl).trans (.modFader ..)
    · constructor <;> simp [State.grantTo, hk]
    · simp [State.grantTo, hk, homingSlot, SlotUse.motion]
    · simp [State.grantTo, hk]
    · simp [State.grantTo, hk, hn, homingSlot, Option.filter_some, update_noSlot_some]
    · intro hp; simpa [State.grantTo, hk] using hp.inRange.2.2
    · intro hp; simpa [State.grantTo, hk] using hp.inRange.2.1
    · intro _; exact Slot.setpointOk_of_seeking (by simp [homingSlot])
    · intro ht
      rw [Slot.ends_of_not_park (by simp [homingSlot])]
      simpa [State.grantTo, hk] using ht.record_of_noSlot hn
    · simp only [State.grantTo, hk, State.modFader_fader_self]; exact .home hm
    · simp [State.grantTo, hk]

theorem State.freeSlot?_some {s : State} {i : SlotId} (h : s.freeSlot? = some i) : s.slot i = none := by
  simpa using List.find?_some h

/-- The fold of `State.olderHold` finds a Holding slot. -/
theorem State.olderHold_foldl {s : State} {i : SlotId} {n : Nat} (l : List SlotId) (best : Option (SlotId × Nat))
    (hb : ∀ j m, best = some (j, m) → ∃ sl, s.slot j = some sl ∧ sl.use = .holding)
    (h : l.foldl s.olderHold best = some (i, n)) : ∃ sl, s.slot i = some sl ∧ sl.use = .holding := by
  induction l generalizing best with
  | nil => exact hb i n h
  | cons k rest ih =>
    refine ih (s.olderHold best k) (fun j m hj => ?_) h
    unfold State.olderHold at hj
    split at hj
    · exact hb j m hj
    · next sl hk =>
      split at hj
      · next hu =>
        split at hj
        · cases hj; exact ⟨sl, hk, hu⟩
        · split at hj
          · cases hj; exact ⟨sl, hk, hu⟩
          · cases hj; exact hb _ _ rfl
      · exact hb j m hj

/-- The slot of the oldest hold is Holding (R45). -/
theorem State.oldestHold?_some {s : State} {i : SlotId} {sl : Slot} (h : s.oldestHold? = some i)
    (hi : s.slot i = some sl) : sl.use = .holding := by
  obtain ⟨⟨j, n⟩, hj, rfl⟩ := Option.map_eq_some_iff.mp h
  obtain ⟨sl', h1, h2⟩ := State.olderHold_foldl _ none (by simp) hj
  rw [hi] at h1
  cases h1
  exact h2

/-- A pre-emption ends a hold and grants its slot (R45). -/
theorem State.preempt_acts {s : State} (hs : s.Sound) {i : SlotId} {sl : Slot} {e : Entry} (hi : s.slot i = some sl)
    (hu : sl.use = .holding) (he : e ∈ s.queue.entries) : Acts ∅ s ((s.endHold i sl).grantTo i e) := by
  have hm : (s.fader sl.fader).motion = .holding := by rw [((hs _).driven_of_slot hi).1, hu]; rfl
  have h1 : Acts ∅ s (s.endHold i sl) := by
    refine (State.endHold_acts hs hi hu).of_arbiter ?_ rfl
    simp only [State.endHold, State.modFader_fader_self, State.setSlot_fader]
    exact .hold hm
  exact h1.trans (State.grantTo_acts h1.sound he (by simp [State.endHold]))

/-- The two kinds of decision of the arbiter are actions on no fader in particular. -/
theorem State.grantStep_acts {s t : State} (hs : s.Sound) (h : s.grantStep = some t) : Acts ∅ s t := by
  obtain ⟨e, rest, i, -, hq, hi, -, rfl⟩ := MotionFrame.grantStep_inv h
  exact State.grantTo_acts hs (by simp [hq]) (State.freeSlot?_some hi)

theorem State.preemptStep_acts {s t : State} (hs : s.Sound) (h : s.preemptStep = some t) : Acts ∅ s t := by
  obtain ⟨e, rest, i, sl, -, hq, ho, -, hi, rfl⟩ := MotionFrame.preemptStep_inv h
  exact State.preempt_acts hs hi (State.oldestHold?_some ho hi) (by simp [hq])

theorem State.arbiterStep_acts {s t : State} (hs : s.Sound) (h : s.arbiterStep = some t) : Acts ∅ s t := by
  rcases MotionFrame.arbiterStep_inv h with h | ⟨-, h⟩
  · exact State.grantStep_acts hs h
  · exact State.preemptStep_acts hs h

theorem State.arbiterLoop_acts (n : Nat) {s : State} (hs : s.Sound) : Acts ∅ s (s.arbiterLoop n) := by
  induction n generalizing s with
  | zero => exact .refl hs
  | succ k ih =>
    unfold State.arbiterLoop
    split
    · exact .refl hs
    · next t h =>
      have h1 := State.arbiterStep_acts hs h
      exact h1.trans (ih h1.sound)

theorem State.arbitrate_acts {s : State} (hs : s.Sound) : Acts ∅ s s.arbitrate :=
  State.arbiterLoop_acts _ hs

/-- An action on some faders, and then the arbiter. -/
theorem Acts.arbitrate {P : Set FaderId} {s t : State} (h : Acts P s t) : Acts P s t.arbitrate :=
  h.trans ((State.arbitrate_acts h.sound).mono (Set.empty_subset P))

end Sys2Proof.Machine
end

section
/-! The gain law (R10, R11, R12): a rising table interpolated in either direction, and its two conversions. -/

namespace Sys2Proof.Machine

/-! ### Interpolation in a rising table

The forward conversion reads a table from gain to position and the inverse one from position to gain; both are the
interpolation of a rising list of points, from one coordinate (`key`) to the other (`val`). -/

section
variable {key val : TaperPoint → Int}

/-- The lowest segment whose upper end is at or above a number (R11, R12). -/
def segmentBy (key : TaperPoint → Int) (t : List TaperPoint) (z : Int) : Option (TaperPoint × TaperPoint) :=
  match t with
  | p :: q :: rest => if z ≤ key q then some (p, q) else segmentBy key (q :: rest) z
  | _ => none

/-- The value between two points, rounded to the nearest, halves upward. -/
def between (key val : TaperPoint → Int) (u v : TaperPoint) (z : Int) : Int :=
  val u + roundHalfUp ((z - key u) * (val v - val u)) (key v - key u)

/-- The value of a table at a number. -/
def interpolate (key val : TaperPoint → Int) (t : List TaperPoint) (z : Int) : Int :=
  match segmentBy key t z with
  | none => 0
  | some (u, v) => between key val u v z

/-- Both coordinates rise along the table (R10). -/
def Rising (key val : TaperPoint → Int) (t : List TaperPoint) : Prop :=
  t.Pairwise fun p q => key p < key q ∧ val p < val q

theorem Rising.head {u v : TaperPoint} {t : List TaperPoint} (h : Rising key val (u :: v :: t)) :
    key u < key v ∧ val u < val v :=
  (List.pairwise_cons.mp h).1 v List.mem_cons_self

theorem Rising.tail {u : TaperPoint} {t : List TaperPoint} (h : Rising key val (u :: t)) : Rising key val t :=
  (List.pairwise_cons.mp h).2

theorem gainSegment_eq (t : List TaperPoint) (g : Int) : gainSegment t g = segmentBy TaperPoint.gain t g := by
  fun_induction gainSegment t g with
  | case1 p q rest h => simp [segmentBy, h]
  | case2 p q rest h ih => simp [segmentBy, h, ih]
  | case3 t h =>
    match t with
    | [] | [_] => rfl
    | p :: q :: rest => exact (h p q rest rfl).elim

theorem posSegment_eq (t : List TaperPoint) (n : Nat) : posSegment t n = segmentBy (fun p => (p.pos : Int)) t n := by
  fun_induction posSegment t n with
  | case1 p q rest h => simp [segmentBy, h]
  | case2 p q rest h ih => simp [segmentBy, h, ih]
  | case3 t h =>
    match t with
    | [] | [_] => rfl
    | p :: q :: rest => exact (h p q rest rfl).elim

theorem between_left {u v : TaperPoint} (hk : key u < key v) : between key val u v (key u) = val u := by
  simp [between, roundHalfUp_zero (key v - key u) (by omega)]

theorem between_right {u v : TaperPoint} (hk : key u < key v) : between key val u v (key v) = val v := by
  have : (key v - key u) * (val v - val u) = (val v - val u) * (key v - key u) := mul_comm ..
  rw [between, this, roundHalfUp_mul _ (by omega)]
  omega

theorem between_mono {u v : TaperPoint} {y z : Int} (hk : key u < key v) (hv : val u < val v) (h : y ≤ z) :
    between key val u v y ≤ between key val u v z :=
  add_le_add_right (roundHalfUp_mono (by omega) (mul_le_mul_of_nonneg_right (by omega) (by omega))) _

theorem interpolate_cons_cons (u v : TaperPoint) (t : List TaperPoint) (z : Int) :
    interpolate key val (u :: v :: t) z =
      if z ≤ key v then between key val u v z else interpolate key val (v :: t) z := by
  by_cases h : z ≤ key v <;> simp [interpolate, segmentBy, h]

/-- The value of a table lies between its first and its last. -/
theorem interpolate_bounds {u v : TaperPoint} {t : List TaperPoint} {z : Int} (h : Rising key val (u :: v :: t))
    (hz : key u ≤ z) (hz' : z ≤ key ((v :: t).getLast (by simp))) :
    val u ≤ interpolate key val (u :: v :: t) z ∧
      interpolate key val (u :: v :: t) z ≤ val ((v :: t).getLast (by simp)) := by
  induction t generalizing u v with
  | nil =>
    obtain ⟨hk, hv⟩ := h.head
    have h1 := between_mono hk hv hz
    have h2 := between_mono hk hv hz'
    simp only [List.getLast_singleton] at hz' h2 ⊢
    rw [between_left hk] at h1
    rw [between_right hk] at h2
    rw [interpolate_cons_cons, if_pos hz']
    exact ⟨h1, h2⟩
  | cons w t ih =>
    obtain ⟨hk, hv⟩ := h.head
    rw [List.getLast_cons_cons] at hz' ⊢
    rw [interpolate_cons_cons]
    split
    · next hle =>
      have h1 := between_mono hk hv hz
      have h2 := between_mono hk hv hle
      rw [between_left hk] at h1
      rw [between_right hk] at h2
      have hlast := ((List.pairwise_cons.mp h.tail).1 _ (List.getLast_mem (by simp : w :: t ≠ []))).2
      exact ⟨h1, h2.trans hlast.le⟩
    · next hlt =>
      obtain ⟨h1, h2⟩ := ih h.tail (by omega) hz'
      exact ⟨hv.le.trans h1, h2⟩

/-- The value of a table never falls. -/
theorem interpolate_mono {u v : TaperPoint} {t : List TaperPoint} {y z : Int} (h : Rising key val (u :: v :: t))
    (hy : key u ≤ y) (hyz : y ≤ z) (hz : z ≤ key ((v :: t).getLast (by simp))) :
    interpolate key val (u :: v :: t) y ≤ interpolate key val (u :: v :: t) z := by
  induction t generalizing u v with
  | nil =>
    obtain ⟨hk, hv⟩ := h.head
    simp only [List.getLast_singleton] at hz
    rw [interpolate_cons_cons, interpolate_cons_cons, if_pos hz, if_pos (hyz.trans hz)]
    exact between_mono hk hv hyz
  | cons w t ih =>
    obtain ⟨hk, hv⟩ := h.head
    rw [List.getLast_cons_cons] at hz
    rw [interpolate_cons_cons, interpolate_cons_cons u]
    by_cases h1 : y ≤ key v <;> by_cases h2 : z ≤ key v
    · rw [if_pos h1, if_pos h2]; exact between_mono hk hv hyz
    · rw [if_pos h1, if_neg h2]
      have h3 := between_mono hk hv h1
      rw [between_right hk] at h3
      exact h3.trans (interpolate_bounds h.tail (by omega) hz).1
    · omega
    · rw [if_neg h1, if_neg h2]; exact ih h.tail (by omega) hz

/-- Between two neighbouring points the segment found is theirs, or the one that ends where theirs begins. -/
theorem segmentBy_of_between {before after : List TaperPoint} {u v : TaperPoint} {z : Int}
    (h : Rising key val (before ++ u :: v :: after)) (hz : key u ≤ z) (hz' : z ≤ key v) :
    segmentBy key (before ++ u :: v :: after) z = some (u, v) ∨
      ∃ w, segmentBy key (before ++ u :: v :: after) z = some (w, u) ∧ z = key u ∧ key w < key u ∧ val w < val u := by
  induction before with
  | nil => exact .inl (by simp [segmentBy, hz'])
  | cons w rest ih =>
    match rest with
    | [] =>
      by_cases hu : z ≤ key u
      · exact .inr ⟨w, by simp [segmentBy, hu], by omega, h.head⟩
      · exact .inl (by simp [segmentBy, hu, hz'])
    | x :: rest =>
      have hx : ¬z ≤ key x := by
        have := ((List.pairwise_cons.mp h.tail).1 u (by simp)).1
        omega
      simpa [segmentBy, hx] using ih h.tail

theorem interpolate_of_between {before after : List TaperPoint} {u v : TaperPoint} {z : Int}
    (h : Rising key val (before ++ u :: v :: after)) (hz : key u ≤ z) (hz' : z ≤ key v) :
    interpolate key val (before ++ u :: v :: after) z = between key val u v z := by
  have huv : key u < key v := (Rising.head (List.pairwise_append.mp h).2.1).1
  rcases segmentBy_of_between h hz hz' with hs | ⟨w, hs, rfl, hw, -⟩
  · simp [interpolate, hs]
  · simp only [interpolate, hs]
    rw [between_right hw, between_left huv]

/-- Every number of the table's range lies between two neighbouring points. -/
theorem exists_between {u v : TaperPoint} {t : List TaperPoint} {z : Int} (hz : key u ≤ z)
    (hz' : z ≤ key ((v :: t).getLast (by simp))) :
    ∃ before p q after, u :: v :: t = before ++ p :: q :: after ∧ key p ≤ z ∧ z ≤ key q := by
  induction t generalizing u v with
  | nil => exact ⟨[], u, v, [], rfl, hz, hz'⟩
  | cons w t ih =>
    by_cases hv : z ≤ key v
    · exact ⟨[], u, v, w :: t, rfl, hz, hv⟩
    · rw [List.getLast_cons_cons] at hz'
      obtain ⟨before, p, q, after, ht, hp, hq⟩ := ih (u := v) (by omega) hz'
      exact ⟨u :: before, p, q, after, by simp [ht], hp, hq⟩

/-- Every point of a table is an end of one of its segments. -/
theorem exists_segment_of_mem {u v p : TaperPoint} {t : List TaperPoint} (hp : p ∈ u :: v :: t) :
    ∃ before x y after, u :: v :: t = before ++ x :: y :: after ∧ (p = x ∨ p = y) := by
  obtain ⟨a, b, hab⟩ := List.append_of_mem hp
  match b with
  | y :: after => exact ⟨a, p, y, after, hab, .inl rfl⟩
  | [] =>
    rcases List.eq_nil_or_concat a with rfl | ⟨a, w, rfl⟩
    · simp at hab
    · exact ⟨a, w, p, [], by simpa using hab, .inr rfl⟩

/-- The value of a table at one of its points is that point's. -/
theorem interpolate_of_mem {u v p : TaperPoint} {t : List TaperPoint} (h : Rising key val (u :: v :: t))
    (hp : p ∈ u :: v :: t) : interpolate key val (u :: v :: t) (key p) = val p := by
  obtain ⟨before, x, y, after, ht, hxy⟩ := exists_segment_of_mem hp
  rw [ht] at h ⊢
  have hk : key x < key y := (Rising.head (List.pairwise_append.mp h).2.1).1
  rcases hxy with rfl | rfl
  · rw [interpolate_of_between h le_rfl hk.le, between_left hk]
  · rw [interpolate_of_between h hk.le le_rfl, between_right hk]

end

/-! ### The taper table of R10 -/

/-- A taper table has two ends, at positions 0 and 1000, and rises between them, within 16 points and the range of gains. -/
theorem taperOk_iff {t : List TaperPoint} :
    taperOk t = true ↔ (2 ≤ t.length ∧ t.length ≤ 16) ∧ t.head?.map TaperPoint.pos = some 0 ∧
      t.getLast?.map TaperPoint.pos = some 1000 ∧ (t.Pairwise fun p q => p.pos < q.pos ∧ p.gain < q.gain) ∧
      ∀ p ∈ t, Config.gainMin ≤ p.gain ∧ p.gain ≤ Config.gainMax := by
  simp [taperOk, and_assoc]

theorem ceilingGain_cons (u : TaperPoint) (t : List TaperPoint) :
    ceilingGain (u :: t) = ((u :: t).getLast (by simp)).gain := by
  induction t generalizing u with
  | nil => rfl
  | cons v t ih => rw [List.getLast_cons_cons, ← ih]; rfl

/-- The shape of a taper table in force. -/
theorem taperOk_cases {t : List TaperPoint} (h : taperOk t = true) :
    ∃ u v r, t = u :: v :: r ∧ u.pos = 0 ∧ ((v :: r).getLast (by simp)).pos = 1000 ∧ floorGain t = u.gain ∧
      ceilingGain t = ((v :: r).getLast (by simp)).gain ∧ Rising TaperPoint.gain (fun p => (p.pos : Int)) t ∧
      Rising (fun p => (p.pos : Int)) TaperPoint.gain t := by
  obtain ⟨⟨hlen, -⟩, hfirst, hlast, hrise, -⟩ := taperOk_iff.mp h
  match t with
  | [] | [_] => simp at hlen
  | u :: v :: r =>
    refine ⟨u, v, r, rfl, by simpa using hfirst, ?_, rfl, ceilingGain_cons v r, ?_, ?_⟩
    · rw [List.getLast?_cons_cons, List.getLast?_eq_some_getLast (by simp)] at hlast
      simpa using hlast
    · exact hrise.imp fun ⟨h1, h2⟩ => ⟨h2, Int.ofNat_lt.mpr h1⟩
    · exact hrise.imp fun ⟨h1, h2⟩ => ⟨Int.ofNat_lt.mpr h1, h2⟩

theorem floorGain_le_ceilingGain {t : List TaperPoint} (h : taperOk t = true) : floorGain t ≤ ceilingGain t := by
  obtain ⟨u, v, r, rfl, -, -, hf, hc, hr, -⟩ := taperOk_cases h
  rw [hf, hc]
  exact ((List.pairwise_cons.mp hr).1 _ (List.getLast_mem (by simp : v :: r ≠ []))).1.le

/-- A gain brought to the range of a table (R11, step 1). -/
def clampGain (t : List TaperPoint) (v : Int) : Int :=
  max (floorGain t) (min (ceilingGain t) v)

theorem clampGain_bounds {t : List TaperPoint} (h : taperOk t = true) (v : Int) :
    floorGain t ≤ clampGain t v ∧ clampGain t v ≤ ceilingGain t := by
  have := floorGain_le_ceilingGain h
  unfold clampGain; omega

/-! ### The forward conversion (R11) -/

theorem convertGain_accepted (t : List TaperPoint) (v : Int) :
    (convertGain t (.cdb v)).accepted = .cdb (clampGain t v) := by
  simp only [convertGain]; split <;> rfl

theorem convertGain_clamped (t : List TaperPoint) (v : Int) :
    (convertGain t (.cdb v)).clamped = (clampGain t v != v) := by
  simp only [convertGain]; split <;> rfl

/-- The position of a gain is the table's value from gain to position. -/
theorem convertGain_pos {t : List TaperPoint} (h : taperOk t = true) (v : Int) :
    ((convertGain t (.cdb v)).pos : Int) = interpolate TaperPoint.gain (fun p => (p.pos : Int)) t (clampGain t v) := by
  obtain ⟨hlo, hhi⟩ := clampGain_bounds h v
  obtain ⟨x, y, r, rfl, h0, -, hf, hc, hr, -⟩ := taperOk_cases h
  have hb := (interpolate_bounds hr (hf ▸ hlo) (hc ▸ hhi)).1
  simp only [convertGain, gainSegment_eq]
  unfold interpolate at hb ⊢
  simp only [clampGain] at hb ⊢
  split <;> rename_i hs
  · simp [hs]
  · simp only [hs, between, h0, Nat.cast_zero] at hb ⊢
    exact Int.toNat_of_nonneg hb

theorem convertGain_pos_le {t : List TaperPoint} (h : taperOk t = true) (g : Gain) : (convertGain t g).pos ≤ 1000 := by
  cases g with
  | off => exact Nat.zero_le _
  | cdb v =>
    have hpos := convertGain_pos h v
    obtain ⟨hlo, hhi⟩ := clampGain_bounds h v
    obtain ⟨x, y, r, rfl, -, h1000, hf, hc, hr, -⟩ := taperOk_cases h
    have hb := (interpolate_bounds hr (hf ▸ hlo) (hc ▸ hhi)).2
    rw [h1000, ← hpos] at hb
    exact_mod_cast hb

/-- The rounded-up flag, between two neighbouring points (R11). -/
theorem convertGain_roundedUp {before after : List TaperPoint} {p q : TaperPoint} {v : Int}
    (h : Rising TaperPoint.gain (fun p => (p.pos : Int)) (before ++ p :: q :: after))
    (hp : p.gain ≤ clampGain (before ++ p :: q :: after) v) (hq : clampGain (before ++ p :: q :: after) v ≤ q.gain) :
    (convertGain (before ++ p :: q :: after) (.cdb v)).roundedUp = true ↔
      (clampGain (before ++ p :: q :: after) v - p.gain) * ((q.pos : Int) - p.pos) <
        roundHalfUp ((clampGain (before ++ p :: q :: after) v - p.gain) * ((q.pos : Int) - p.pos)) (q.gain - p.gain) *
          (q.gain - p.gain) := by
  have hpq : p.gain < q.gain := (Rising.head (List.pairwise_append.mp h).2.1).1
  rcases segmentBy_of_between h hp hq with hs | ⟨w, hs, hz, hw, -⟩
  · simp only [clampGain] at hs ⊢
    simp only [convertGain, gainSegment_eq, hs, decide_eq_true_eq]
  · have hw' : ((p.gain - w.gain) * ((p.pos : Int) - w.pos)) = ((p.pos : Int) - w.pos) * (p.gain - w.gain) := mul_comm ..
    rw [hz, sub_self, zero_mul, roundHalfUp_zero _ (by omega), zero_mul]
    simp only [clampGain] at hs hz
    rw [hz] at hs
    simp only [convertGain, gainSegment_eq, hz, hs, decide_eq_true_eq]
    rw [hw', roundHalfUp_mul _ (by omega)]
    simp

/-! ### The inverse conversion (R12) -/

/-- At or above the cut the gain of a position is the table's value from position to gain. -/
theorem gainOfPerMille_eq {law : GainLaw} (h : taperOk law.taper = true) {p : Nat} (hcut : law.cut ≤ p) (hp : p ≤ 1000) :
    gainOfPerMille law p = .cdb (interpolate (fun p => (p.pos : Int)) TaperPoint.gain law.taper p) := by
  obtain ⟨x, y, r, ht, h0, h1000, -, -, -, hr⟩ := taperOk_cases h
  obtain ⟨before, u, v, after, hl, hu, hv⟩ := exists_between (key := fun p => (p.pos : Int)) (u := x) (v := y) (t := r)
    (z := p) (by simp [h0]) (by rw [h1000]; exact_mod_cast hp)
  rw [ht, hl] at hr
  simp only [gainOfPerMille, if_neg (Nat.not_lt.mpr hcut), posSegment_eq, ht, hl, interpolate]
  rcases segmentBy_of_between hr hu hv with hs | ⟨w, hs, -⟩ <;> simp only [hs] <;> rfl

theorem gainOfPerMille_below {law : GainLaw} {p : Nat} (h : p < law.cut) : gainOfPerMille law p = .off :=
  if_pos h

end Sys2Proof.Machine
end

section
/-! The statements of the gain law: O52 (R11) and O53 (R12, R13). -/

namespace Sys2Proof.Machine

/-- The conversion to a position is rounded to the nearest between two neighbouring points, halves upward (R11). -/
theorem convertGain_between {before after : List TaperPoint} {p q : TaperPoint} {v : Int}
    (h : taperOk (before ++ p :: q :: after) = true) (hp : p.gain ≤ clampGain (before ++ p :: q :: after) v)
    (hq : clampGain (before ++ p :: q :: after) v ≤ q.gain) :
    ((convertGain (before ++ p :: q :: after) (.cdb v)).pos : Int) - p.pos =
      roundHalfUp ((clampGain (before ++ p :: q :: after) v - p.gain) * ((q.pos : Int) - p.pos)) (q.gain - p.gain) := by
  obtain ⟨-, -, -, -, -, -, -, -, hr, -⟩ := taperOk_cases h
  rw [convertGain_pos h, interpolate_of_between hr hp hq, between]
  omega

/-- The position of a gain never falls as the gain rises (R11). -/
theorem convertGain_mono {t : List TaperPoint} (h : taperOk t = true) {v w : Int} (hvw : v ≤ w) :
    (convertGain t (.cdb v)).pos ≤ (convertGain t (.cdb w)).pos := by
  have hv := convertGain_pos h v
  have hw := convertGain_pos h w
  have hle : clampGain t v ≤ clampGain t w := by unfold clampGain; omega
  obtain ⟨hlo, -⟩ := clampGain_bounds h v
  obtain ⟨-, hhi⟩ := clampGain_bounds h w
  obtain ⟨x, y, r, rfl, -, -, hf, hc, hr, -⟩ := taperOk_cases h
  have := interpolate_mono hr (hf ▸ hlo) hle (hc ▸ hhi)
  omega

/-- The gains of a table lie between its floor and its ceiling (R10). -/
theorem gain_mem_range {t : List TaperPoint} (h : taperOk t = true) {p : TaperPoint} (hp : p ∈ t) :
    floorGain t ≤ p.gain ∧ p.gain ≤ ceilingGain t := by
  obtain ⟨x, y, r, rfl, -, -, hf, hc, hr, -⟩ := taperOk_cases h
  have hle : (x :: y :: r).Pairwise fun a b => a.gain ≤ b.gain := hr.imp fun hab => hab.1.le
  rw [hf, hc]
  constructor
  · rcases List.mem_cons.mp hp with rfl | hp'
    · exact le_rfl
    · exact (List.pairwise_cons.mp hle).1 p hp'
  · have hlast := hle.rel_getLast_of_rel_getLast_getLast hp le_rfl
    rwa [List.getLast_cons_cons] at hlast

theorem clampGain_of_mem {t : List TaperPoint} (h : taperOk t = true) {p : TaperPoint} (hp : p ∈ t) :
    clampGain t p.gain = p.gain := by
  have := gain_mem_range h hp
  unfold clampGain; omega

/-- Each point of a taper table converts exactly (R11). -/
theorem convertGain_point {t : List TaperPoint} (h : taperOk t = true) {p : TaperPoint} (hp : p ∈ t) :
    convertGain t (.cdb p.gain) = ⟨.cdb p.gain, p.pos, false, false⟩ := by
  have hacc := convertGain_accepted t p.gain
  have hcl := convertGain_clamped t p.gain
  have hc := clampGain_of_mem h hp
  have hpos := convertGain_pos h p.gain
  rw [hc] at hacc hcl hpos
  obtain ⟨u, v, r, rfl, -, -, -, -, hr, -⟩ := taperOk_cases h
  rw [interpolate_of_mem hr hp] at hpos
  have hup : (convertGain (u :: v :: r) (.cdb p.gain)).roundedUp = false := by
    obtain ⟨before, x, y, after, ht, hxy⟩ := exists_segment_of_mem hp
    rw [ht] at hr hc ⊢
    have hk : x.gain < y.gain := (Rising.head (List.pairwise_append.mp hr).2.1).1
    refine Bool.eq_false_iff.mpr fun hup => ?_
    rcases hxy with rfl | rfl
    · rw [convertGain_roundedUp hr hc.ge (hc.le.trans hk.le), hc, sub_self, zero_mul, roundHalfUp_zero _ (by omega)] at hup
      simp at hup
    · rw [convertGain_roundedUp hr (hk.le.trans hc.ge) hc.le, hc, mul_comm, roundHalfUp_mul _ (by omega)] at hup
      exact lt_irrefl _ hup
  cases hconv : convertGain (u :: v :: r) (.cdb p.gain) with
  | mk a b c d =>
    rw [hconv] at hacc hcl hpos hup
    simp only at hacc hcl hpos hup
    simp [hacc, hcl, hup, Int.ofNat_inj.mp hpos]

/-- Settles O52: the forward conversion is the interpolation of the rising table at the clamped gain. -/
theorem forwardConversionOfGains : Obligations.ForwardConversionOfGains := by
  intro t ht
  refine ⟨rfl, fun p hp => convertGain_point ht hp, fun v => ?_⟩
  have hrange := floorGain_le_ceilingGain ht
  have hclamp : (if v < floorGain t then floorGain t else if ceilingGain t < v then ceilingGain t else v) = clampGain t v := by
    unfold clampGain; split_ifs <;> omega
  dsimp only
  rw [hclamp]
  refine ⟨convertGain_accepted t v, ?_, convertGain_pos_le ht _, fun w hw => convertGain_mono ht hw, ?_⟩
  · rw [convertGain_clamped, bne_iff_ne]
    unfold clampGain; omega
  · rintro before p q after rfl hp hq
    obtain ⟨-, -, -, -, -, -, -, -, hr, -⟩ := taperOk_cases ht
    have hk : p.gain < q.gain := (Rising.head (List.pairwise_append.mp hr).2.1).1
    have hb := roundHalfUp_bounds ((clampGain (before ++ p :: q :: after) v - p.gain) * ((q.pos : Int) - p.pos))
      (show 0 < q.gain - p.gain by omega)
    rw [convertGain_between ht hp hq, convertGain_roundedUp hr hp hq]
    exact ⟨hb.1, hb.2, Iff.rfl⟩

/-! ### Raw to per-mille (R13) -/

theorem perMilleOfRaw_eq (low high raw : Nat) :
    (perMilleOfRaw low high raw : Int) =
      max 0 (min 1000 (roundHalfUp (((raw : Int) - low) * 1000) ((high : Int) - low))) := by
  unfold perMilleOfRaw; omega

theorem perMilleOfRaw_mono {low high r r' : Nat} (h : low < high) (hr : r ≤ r') :
    perMilleOfRaw low high r ≤ perMilleOfRaw low high r' := by
  have h1 := perMilleOfRaw_eq low high r
  have h2 := perMilleOfRaw_eq low high r'
  have := roundHalfUp_mono (show 0 < (high : Int) - low by omega)
    (show ((r : Int) - low) * 1000 ≤ ((r' : Int) - low) * 1000 by omega)
  omega

/-- Between the ends of a calibration no reading is clamped (R13). -/
theorem perMilleOfRaw_inside {low high r : Nat} (h : low < high) (h1 : low ≤ r) (h2 : r ≤ high) :
    (perMilleOfRaw low high r : Int) = roundHalfUp (((r : Int) - low) * 1000) ((high : Int) - low) := by
  have hd : 0 < (high : Int) - low := by omega
  have hlo := le_roundHalfUp hd (show 0 * ((high : Int) - low) ≤ ((r : Int) - low) * 1000 by omega)
  have hhi := roundHalfUp_le hd (show ((r : Int) - low) * 1000 ≤ 1000 * ((high : Int) - low) by omega)
  rw [perMilleOfRaw_eq]
  omega

theorem perMilleOfRaw_low {low high r : Nat} (h : low < high) (hr : r ≤ low) : perMilleOfRaw low high r = 0 := by
  have hle := roundHalfUp_le (show 0 < (high : Int) - low by omega)
    (show ((r : Int) - low) * 1000 ≤ 0 * ((high : Int) - low) by omega)
  have := perMilleOfRaw_eq low high r
  omega

theorem perMilleOfRaw_high {low high r : Nat} (h : low < high) (hr : high ≤ r) : perMilleOfRaw low high r = 1000 := by
  have hle := le_roundHalfUp (show 0 < (high : Int) - low by omega)
    (show 1000 * ((high : Int) - low) ≤ ((r : Int) - low) * 1000 by omega)
  have := perMilleOfRaw_eq low high r
  omega

/-- Settles O53: the inverse conversion is the interpolation of the rising table, the raw mapping a rounded quotient. -/
theorem inverseAndRawMapping : Obligations.InverseAndRawMapping := by
  refine ⟨fun law hlaw => ⟨fun p hp => gainOfPerMille_below hp, fun q hq hcut => ?_, fun p hcut hp => ?_⟩,
    fun low high h => ⟨rawOfPerMille_zero .., rawOfPerMille_full h.le, fun p q hpq hq => ?_, fun r r' hr => ?_,
      fun r => perMilleOfRaw_low h, fun r => perMilleOfRaw_high h, fun p hp => ?_, fun r h1 h2 => ?_⟩⟩
  · obtain ⟨x, y, r, ht, -, h1000, -, -, -, hr⟩ := taperOk_cases hlaw.1
    have hle : law.taper.Pairwise fun a b => a.pos ≤ b.pos := hr.imp fun hab => Int.ofNat_le.mp hab.1.le
    have hlast := hle.rel_getLast_of_rel_getLast_getLast hq le_rfl
    simp only [ht, List.getLast_cons_cons, h1000] at hlast
    rw [gainOfPerMille_eq hlaw.1 hcut hlast]
    rw [ht] at hr hq ⊢
    exact congrArg Gain.cdb (interpolate_of_mem hr hq)
  · refine ⟨_, gainOfPerMille_eq hlaw.1 hcut hp, ?_⟩
    obtain ⟨x, y, r, ht, h0, h1000, hf, hc, -, hr⟩ := taperOk_cases hlaw.1
    have hp' : (p : Int) ≤ (((y :: r).getLast (by simp)).pos : Int) := by omega
    rw [hf, hc]
    rw [ht] at hr ⊢
    obtain ⟨h1, h2⟩ := interpolate_bounds hr (z := p) (by simp [h0]) hp'
    refine ⟨h1, h2, fun q g hpq hq hg => ?_, fun before u v after hl hu hv => ?_⟩
    · rw [gainOfPerMille_eq hlaw.1 (hcut.trans hpq) hq, ht] at hg
      cases hg
      exact interpolate_mono hr (by simp [h0]) (Int.ofNat_le.mpr hpq) (by omega)
    · rw [hl] at hr ⊢
      have hk : (u.pos : Int) < v.pos := (Rising.head (List.pairwise_append.mp hr).2.1).1
      have hb := roundHalfUp_bounds (((p : Int) - u.pos) * (v.gain - u.gain)) (show 0 < (v.pos : Int) - u.pos by omega)
      have hi := interpolate_of_between hr (z := p) (Int.ofNat_le.mpr hu) (Int.ofNat_le.mpr hv)
      dsimp only
      rw [hi, between, add_sub_cancel_left]
      exact hb
  · exact ⟨le_rawOfPerMille h.le p, rawOfPerMille_mono h.le hpq, rawOfPerMille_le h.le hq⟩
  · exact ⟨perMilleOfRaw_mono h hr, perMilleOfRaw_le ..⟩
  · have hb := roundHalfUp_bounds ((p : Int) * ((high : Int) - low)) (d := 1000) (by omega)
    have hraw := rawOfPerMille_eq (pos := p) h.le
    have hge := le_rawOfPerMille h.le p
    zify [hge, h.le]
    rw [hraw, add_sub_cancel_left]
    omega
  · have hb := roundHalfUp_bounds (((r : Int) - low) * 1000) (show 0 < (high : Int) - low by omega)
    zify [h1, h.le]
    rw [perMilleOfRaw_inside h h1 h2]
    omega

end Sys2Proof.Machine
end

section
/-! Target requests are actions on their fader (R14 to R18, R26, R27, R52, R69). -/

namespace Sys2Proof.Machine

/-! ### Changes of a fader record -/

/-- A change of a fader record in what the invariants do not read, but for the target position. -/
theorem State.modFader_acts {s : State} (hs : s.Sound) {f : FaderId} {g : Fader → Fader}
    (ha : (s.fader f).Alike (g (s.fader f))) (hm : (g (s.fader f)).motion = (s.fader f).motion)
    (hp : (g (s.fader f)).perMille = (s.fader f).perMille)
    (ht : s.PlacedAt f → (g (s.fader f)).targetPos ≤ 1000) : Acts {f} s (s.modFader f g) :=
  (OnlyAt.modFader s f g).acts_edit hs (by simpa using ha) (by simpa using hm) (by simpa using hp) rfl rfl
    (by simpa using ht)

/-- A change of a fader record in touch state, pending target or inhibit, of a fader that is then served only where it may
be. -/
theorem State.modFader_acts_hold {s : State} (hs : s.Sound) {f : FaderId} {g : Fader → Fader}
    (hm : (g (s.fader f)).motion = (s.fader f).motion) (hp : (g (s.fader f)).perMille = (s.fader f).perMille)
    (hr : (g (s.fader f)).raw = (s.fader f).raw) (hst : (g (s.fader f)).stale = (s.fader f).stale)
    (hc : (g (s.fader f)).cal = (s.fader f).cal) (ht : (g (s.fader f)).targetPos = (s.fader f).targetPos)
    (hgone : (s.fader f).motion = .absent → (g (s.fader f)).touch = .untouched)
    (hserv : (s.fader f).motion.free = true ∨ (s.modFader f g).Servable f)
    (hpend : s.PendedAt f → (g (s.fader f)).pendingTarget ≠ none → (g (s.fader f)).held = true) : Acts {f} s (s.modFader f g) := by
  have hx : (s.modFader f g).fader f = g (s.fader f) := s.modFader_fader_self f g
  refine (OnlyAt.modFader s f g).acts hs ⟨⟨?_, ?_, ?_, ?_⟩, fun hpl => ⟨hpl.taper, hpl.span, ?_, ?_, ?_⟩, fun htr => ?_,
    fun hpe => ?_⟩ (hx ▸ hr) (hx ▸ hst)
  · cases (hs f).served with
    | free m e n => exact .free (by rw [hx, hm]; exact m) e n
    | waits d m e n => exact .waits d (by rw [hx, hm]; exact m) e n
    | driven i sl m e n => exact .driven i sl (by rw [hx, hm]; exact m) e n
  · rw [hx, hm]; exact (hs f).absent
  · rw [hx, hm, hst]; exact fun h => ⟨hgone h, ((hs f).gone h).2⟩
  · rw [hx, hm]; exact hserv
  · rw [hx, hc]; exact hpl.cal
  · rw [hx, hc]; exact hpl.slots
  · unfold Fader.inRange; rw [hx, hr, hp, ht]; exact hpl.inRange
  · unfold State.TrackedAt
    rw [(hs f).calInForce_congr (t := s.modFader f g) rfl (by rw [hx, hc]) (by rw [hx, hc]), hx, hp, hr]
    exact htr
  · unfold State.PendedAt
    rw [hx]; exact hpend hpe

theorem State.recordConversion_acts {s : State} (hs : s.Sound) (f : FaderId) (c : Conversion) :
    Acts {f} s (s.recordConversion f c) :=
  State.modFader_acts hs (by constructor <;> rfl) rfl rfl fun hp => hp.inRange.2.2

theorem State.takeOn_acts {s : State} (hs : s.Sound) (f : FaderId) (c : ReqClass) (t : Tag) (b : Bool) :
    Acts {f} s (s.takeOn f c t b) :=
  State.modFader_acts hs (by constructor <;> rfl) rfl rfl fun hp => hp.inRange.2.2

theorem State.targetFromPresent_acts {s : State} (hs : s.Sound) (f : FaderId) : Acts {f} s (s.targetFromPresent f) := by
  unfold State.targetFromPresent
  exact State.modFader_acts hs (by constructor <;> rfl) rfl rfl fun hp => hp.inRange.2.1

/-- Recording a target that a conversion gave (R11, R17, R18). -/
theorem State.recordTarget_acts {s : State} (hs : s.Sound) (f : FaderId) (g : Gain) :
    Acts {f} s (s.recordTarget f (convertGain s.law.taper g)) :=
  State.modFader_acts hs (by constructor <;> rfl) rfl rfl fun hp => convertGain_pos_le hp.taper g

/-! ### The wait queue -/

theorem State.joinQueue_acts {s : State} (hs : s.Sound) {f : FaderId} (hfree : (s.fader f).motion.free = true)
    (hnot : (s.fader f).motion ≠ .absent) (hserv : s.Servable f) (k : EntryKind) (c : ReqClass) (t : Tag) (r : Nat)
    (m : Marks) : Acts {f} s (s.joinQueue f k c t r m) := by
  obtain ⟨he, hn⟩ := (hs f).free_of hfree
  refine (OnlyAt.joinQueue s f k c t r m).acts_wait hs ?_ hnot (fun _ => hserv) ?_
    (s.joinQueue_entriesOf_self f k c t r m he) hn hn ?_ ?_
  · constructor <;> simp [State.joinQueue_fader]
  all_goals simp [State.joinQueue_fader]

theorem State.replaceEntry_acts {s : State} (hs : s.Sound) (e : Entry) (hw : (s.fader e.fader).motion = .waiting) :
    Acts {e.fader} s (s.replaceEntry e) := by
  obtain ⟨-, -, -, -, hn⟩ := (hs e.fader).waiting_of hw
  exact (OnlyAt.replaceEntry s e).acts_wait hs (by constructor <;> rfl) (by simp [hw])
    (fun h => by simp [hw, MotionState.free] at h) hw (s.replaceEntry_entriesOf_self e) hn hn rfl rfl

/-! ### The target of a slot -/

/-- A slot with the same ends and with setpoint and target between them is as sound as one that had both there. -/
theorem Slot.setpointOk_of_ends {sl sl' : Slot} {c : Calibration} (h : sl.setpointOk c = true)
    (hn : ¬(sl.use = .homing ∧ sl.phase ≠ .park)) (he : sl'.ends c = sl.ends c)
    (hset : (sl.ends c).1 ≤ sl'.setpoint ∧ sl'.setpoint ≤ (sl.ends c).2)
    (ht : (sl.ends c).1 ≤ sl'.targetRaw ∧ sl'.targetRaw ≤ (sl.ends c).2) : sl'.setpointOk c = true := by
  by_cases hn' : sl'.use = .homing ∧ sl'.phase ≠ .park
  · exact Slot.setpointOk_of_seeking hn'
  · obtain ⟨h1, h2, -⟩ := (Slot.setpointOk_iff hn).mp h
    rw [Slot.setpointOk_iff hn', he]
    exact ⟨h1, h2, hset.1, hset.2, ht.1, ht.2⟩

/-- The target raw position of a fader in a slot lies between the slot's ends (R13). -/
theorem State.targetRaw_bounds {s : State} {f : FaderId} {i : SlotId} {sl : Slot} (hn : s.slotsOf f = onlySlot i sl)
    (hseek : ¬(sl.use = .homing ∧ sl.phase ≠ .park)) (hp : s.PlacedAt f) :
    (sl.ends (s.fader f).cal).1 ≤ s.targetRaw f ∧ s.targetRaw f ≤ (sl.ends (s.fader f).cal).2 := by
  have hok := (Slot.setpointOk_iff hseek).mp (hp.slots i sl (by simp [hn, onlySlot]))
  simp only [State.targetRaw, State.calInForce_of_onlySlot hn]
  exact ⟨le_rawOfPerMille hok.1.le _, rawOfPerMille_le hok.1.le hp.inRange.2.2⟩

/-- A slot that takes a target position anew is as sound as before (R52, R69). -/
theorem State.setpointOk_of_retarget {s : State} {f : FaderId} {i : SlotId} {sl sl' : Slot}
    (hn : s.slotsOf f = onlySlot i sl) (hseek : ¬(sl.use = .homing ∧ sl.phase ≠ .park))
    (he : sl'.ends (s.fader f).cal = sl.ends (s.fader f).cal) (hset : sl'.setpoint = sl.setpoint)
    (ht : sl'.targetRaw = s.targetRaw f) (hp : s.PlacedAt f) : sl'.setpointOk (s.fader f).cal = true := by
  have hok := hp.slots i sl (by simp [hn, onlySlot])
  have hb := (Slot.setpointOk_iff hseek).mp hok
  exact Slot.setpointOk_of_ends hok hseek he (hset ▸ ⟨hb.2.2.1, hb.2.2.2.1⟩) (ht ▸ State.targetRaw_bounds hn hseek hp)

/-! ### Acceptance -/

theorem State.acceptHeld_acts {s : State} (hs : s.Sound) (r : Request) (c : Conversion)
    (hh : (s.fader r.fader).held = true) : Acts {r.fader} s (s.acceptHeld r c) := by
  have hfree : (s.fader r.fader).motion.free = true :=
    (hs r.fader).servable.resolve_right fun h => by simp [h.untouched] at hh
  have hpend : Acts {r.fader} s (s.modFader r.fader fun x =>
      { x with pendingTarget := some ⟨c.accepted, r.cls, r.tag, r.ramp, r.marks⟩ }) :=
    State.modFader_acts_hold hs rfl rfl rfl rfl rfl rfl (fun h => ((hs r.fader).gone h).1) (.inl hfree) fun _ _ => hh
  unfold State.acceptHeld
  split
  · exact hpend
  · exact hpend
  · split
    · have h := State.complete_acts hs r.fader .skipped .latched r.cls r.tag r.marks
      exact h.trans (State.raise_acts h.sound _ (by decide))
    · exact .refl hs

theorem State.acceptIdle_acts {s : State} (hs : s.Sound) (r : Request) (hm : (s.fader r.fader).motion = .idle)
    (hserv : s.Servable r.fader) : Acts {r.fader} s (s.acceptIdle r) := by
  have h1 := State.takeOn_acts hs r.fader r.cls r.tag false
  have hm1 : ((s.takeOn r.fader r.cls r.tag false).fader r.fader).motion = .idle := by simpa [State.takeOn] using hm
  have hs1 : (s.takeOn r.fader r.cls r.tag false).Servable r.fader :=
    ⟨(Fader.held_congr (by simp [State.takeOn])).trans hserv.untouched, by simpa [State.takeOn] using hserv.enabled, hserv.supplied⟩
  unfold State.acceptIdle
  dsimp only
  split
  · exact h1.trans (State.complete_acts h1.sound ..)
  · exact (h1.trans (State.joinQueue_acts h1.sound (by rw [hm1]; rfl) (by simp [hm1]) hs1 ..)).arbitrate

theorem State.acceptWaiting_acts {s : State} (hs : s.Sound) (r : Request)
    (hm : (s.fader r.fader).motion = .waiting) : Acts {r.fader} s (s.acceptWaiting r) := by
  obtain ⟨e, he, hef, -⟩ := (hs r.fader).waiting_of hm
  unfold State.acceptWaiting
  simp only [he]
  have h1 := State.takeOn_acts hs r.fader (e.cls.higher r.cls) r.tag false
  have h2 := State.replaceEntry_acts h1.sound { e with cls := e.cls.higher r.cls, tag := r.tag, ramp := r.ramp, marks := r.marks }
    (by simp [State.takeOn, hef, hm])
  exact (h1.trans (h2.mono (by simp [hef]))).arbitrate

theorem State.acceptDriven_acts {s : State} (hs : s.Sound) (r : Request)
    (hm : (s.fader r.fader).motion = .moving ∨ (s.fader r.fader).motion = .holding) :
    Acts {r.fader} s (s.acceptDriven r) := by
  obtain ⟨i, sl, hsl, hi, hf, hu, he, hn⟩ := (hs r.fader).driven_of (hm.imp_right .inl)
  have huse : sl.use ≠ .homing := fun h => by simp [hu, h, SlotUse.motion] at hm
  have hends : ∀ sl' : Slot, sl'.use = sl.use ∨ sl'.use = .moving →
      sl'.ends (s.fader r.fader).cal = sl.ends (s.fader r.fader).cal := fun sl' h => by
    rw [Slot.ends_of_not_park (fun h' => huse h'.1), Slot.ends_of_not_park]
    rintro ⟨h', -⟩
    rcases h with h | h
    · exact huse (h.symm.trans h')
    · simp [h] at h'
  unfold State.acceptDriven
  simp only [hsl]
  generalize hsl' : (if sl.use = .holding then _ else _ : Slot) = sl'
  have hfader : sl'.fader = r.fader := by rw [← hsl', ← hf]; split <;> rfl
  have huse' : sl'.use = .moving := by
    rw [← hsl']
    split
    · rfl
    · next h => cases hu' : sl.use <;> simp_all [Slot.retarget]
  have hset : sl'.setpoint = sl.setpoint := by rw [← hsl']; split <;> rfl
  have htarget : sl'.targetRaw = s.targetRaw r.fader := by rw [← hsl']; split <;> rfl
  refine OnlyAt.acts_drive (i := i) (sl := sl') ?_ hs ?_ ?_ ?_ ?_ ?_ (fun hp => ?_) (fun hp => ?_) (fun hp => ?_)
    (fun ht => ?_)
  · have h1 : OnlyAt r.fader (s.takeOn r.fader r.cls r.tag false)
        ((s.takeOn r.fader r.cls r.tag false).setSlot i (some sl')) :=
      .setSlot (fun a ha => by rw [show s.slot i = some a from ha] at hi; cases hi; exact hf)
        (fun a ha => by cases ha; exact hfader)
    exact ((OnlyAt.modFader ..).trans h1).trans (.modFader ..)
  · constructor <;> simp [State.takeOn]
  · rcases hm with h | h <;> simp [h, MotionState.free]
  · simp [huse', SlotUse.motion]
  · simpa [State.takeOn] using he
  · simp [State.takeOn, hn, hfader, Option.filter_some, update_noSlot_some]
  · simpa [State.takeOn] using hp.inRange.2.2
  · simpa [State.takeOn] using hp.inRange.2.1
  · exact State.setpointOk_of_retarget hn (fun h => huse h.1) (hends sl' (.inr huse')) hset htarget hp
  · rw [hends sl' (.inr huse')]
    simpa [State.takeOn] using ht.ends_of_onlySlot hn

theorem State.acceptHoming_acts {s : State} (hs : s.Sound) (r : Request)
    (hm : (s.fader r.fader).motion = .homing) : Acts {r.fader} s (s.acceptHoming r) := by
  obtain ⟨i, sl, hsl, hi, hf, hu, he, hn⟩ := (hs r.fader).driven_of (.inr (.inr hm))
  unfold State.acceptHoming
  simp only [hsl]
  generalize hsl' : (if sl.phase = .park then _ else _ : Slot) = sl'
  have hfader : sl'.fader = r.fader := by rw [← hsl', ← hf]; split <;> rfl
  have huse' : sl'.use = sl.use := by rw [← hsl']; split <;> rfl
  have hphase : sl'.phase = sl.phase := by rw [← hsl']; split <;> rfl
  have hends : sl'.ends (s.fader r.fader).cal = sl.ends (s.fader r.fader).cal := by
    rw [← hsl']; split <;> rfl
  refine OnlyAt.acts_drive (i := i) (sl := sl') ?_ hs ?_ (by rw [hm]; rfl) ?_ ?_ ?_ (fun hp => ?_) (fun hp => ?_)
    (fun hp => ?_) (fun ht => ?_)
  · exact (OnlyAt.setSlot (fun a ha => by rw [hi] at ha; cases ha; exact hf)
      (fun a ha => by cases ha; exact hfader)).trans (.modFader ..)
  · constructor <;> simp
  · simpa [huse'] using hu
  · simpa using he
  · simp [hn, hfader, Option.filter_some, update_noSlot_some]
  · simpa using hp.inRange.2.2
  · simpa using hp.inRange.2.1
  · by_cases hpark : sl.phase = .park
    · rw [if_pos hpark] at hsl'
      refine State.setpointOk_of_retarget hn (fun h => h.2 hpark) hends ?_ ?_ hp <;> rw [← hsl'] <;> rfl
    · refine Slot.setpointOk_of_seeking ⟨?_, by rwa [hphase]⟩
      rw [huse']
      cases hu' : sl.use <;> simp [hu', hm, SlotUse.motion] at hu ⊢
  · rw [hends]
    simpa using ht.ends_of_onlySlot hn

theorem State.acceptMotion_acts {s : State} (hs : s.Sound) (r : Request) (hserv : s.Servable r.fader) :
    Acts {r.fader} s (s.acceptMotion r) := by
  unfold State.acceptMotion
  split
  · next hm => exact State.acceptIdle_acts hs r hm hserv
  · next hm => exact State.acceptWaiting_acts hs r hm
  · next hm => exact State.acceptDriven_acts hs r (.inl hm)
  · next hm => exact State.acceptDriven_acts hs r (.inr hm)
  · next hm => exact State.acceptHoming_acts hs r hm
  all_goals exact .refl hs

/-- A target request is an action on its fader (R14). -/
theorem State.accept_acts {s : State} (hs : s.Sound) (r : Request) : Acts {r.fader} s (s.accept r) := by
  have h1 := State.recordConversion_acts hs r.fader (convertGain s.law.taper r.gain)
  unfold State.accept
  dsimp only
  split
  · next hh => exact h1.trans (State.acceptHeld_acts h1.sound r _ hh)
  · next hh =>
    split
    · exact h1.trans (State.targetFromPresent_acts h1.sound r.fader)
    · have h2 := h1.trans (State.recordTarget_acts h1.sound r.fader r.gain)
      split
      · exact h2.trans (State.takeOn_acts h2.sound ..)
      · next hb =>
        refine h2.trans (State.acceptMotion_acts h2.sound r ?_)
        simp only [State.blocked, Bool.or_eq_true, not_or, Bool.not_eq_true] at hb
        exact ⟨by simpa [State.recordTarget, Fader.held] using hh, hb.1.2, hb.2⟩

theorem State.issueAll_acts {s : State} (hs : s.Sound) (l : List PriorTarget) (tag : Tag) (ramp : Nat) (undo : Bool) :
    Acts Set.univ s (s.issueAll l tag ramp undo) :=
  Acts.foldl hs fun _ _ _ ht => (State.accept_acts ht _).mono (Set.subset_univ _)

end Sys2Proof.Machine
end

section
/-! What a good sense frame and a frame expiry do to a slot is an action on its fader (R49 to R55, R61 to R68). -/

namespace Sys2Proof.Machine

/-- An occupied slot takes new contents of the same use and the same ends. -/
theorem State.reSlot_acts {s : State} (hs : s.Sound) {i : SlotId} {sl sl' : Slot} (hi : s.slot i = some sl)
    (hf : sl'.fader = sl.fader) (hu : sl'.use = sl.use)
    (hends : sl'.ends (s.fader sl.fader).cal = sl.ends (s.fader sl.fader).cal)
    (hok : s.PlacedAt sl.fader → sl'.setpointOk (s.fader sl.fader).cal = true) :
    Acts {sl.fader} s (s.setSlot i (some sl')) := by
  obtain ⟨hm, he, hn⟩ := (hs sl.fader).driven_of_slot hi
  exact OnlyAt.acts_drive (.reSlot hi hf) hs (by constructor <;> rfl) (by simp [hm]) (hm.trans (by rw [hu])) he
    (State.slotsOf_reSlot hn hf) (fun hp => hp.inRange.2.2) (fun hp => hp.inRange.2.1) hok
    (fun ht => hends ▸ ht.ends_of_onlySlot hn)

/-- The setpoint of an occupied slot is sound, in a placed state. -/
theorem State.PlacedAt.setpointOk {s : State} {i : SlotId} {sl : Slot} (hp : s.PlacedAt sl.fader)
    (hi : s.slot i = some sl) : sl.setpointOk (s.fader sl.fader).cal = true :=
  hp.slots i sl (State.slotsOf_eq_some.mpr ⟨hi, rfl⟩)

/-! ### The hold -/

/-- The slot as a hold leaves it (R45, R50). -/
def Slot.hold (sl : Slot) (frames stamp : Nat) : Slot :=
  { sl with
    use := .holding, phase := .down, holdTimer := frames, holdStamp := stamp, settle := 0, age := 0, stallRun := 0,
    stallRef := none, foundLow := none, foundHigh := none }

theorem State.beginHold_only {s : State} {i : SlotId} {sl : Slot} (hi : s.slot i = some sl) :
    OnlyAt sl.fader s (s.beginHold i sl) := by
  unfold State.beginHold
  dsimp only
  split
  · exact (OnlyAt.freeSlot hi).trans (.modFader ..)
  · exact {
      frame := by constructor <;> rfl
      others := fun g hg =>
        let h := OnlyAt.reSlot (sl' := sl.hold (s.fader sl.fader).setup.holdFrames s.table.nextHold) hi rfl
        ⟨State.modFader_fader_ne s (fun x => { x with motion := .holding }) hg.symm, rfl, (h.others g hg).slots⟩
      records := fun _ _ => rfl
      link := rfl }

/-- A hold of no frames is none: the slot is free and the fader Idle (R50). -/
theorem State.beginHold_none {s : State} {i : SlotId} {sl : Slot} (hn : s.slotsOf sl.fader = onlySlot i sl)
    (h : (s.fader sl.fader).setup.holdFrames = 0) :
    (s.beginHold i sl).fader sl.fader = { s.fader sl.fader with motion := .idle } ∧
      (s.beginHold i sl).slotsOf sl.fader = noSlot := by
  simp [State.beginHold, h, hn]

theorem State.beginHold_some {s : State} {i : SlotId} {sl : Slot} (hn : s.slotsOf sl.fader = onlySlot i sl)
    (h : (s.fader sl.fader).setup.holdFrames ≠ 0) :
    (s.beginHold i sl).fader sl.fader = { s.fader sl.fader with motion := .holding } ∧
      (s.beginHold i sl).slotsOf sl.fader =
        onlySlot i (sl.hold (s.fader sl.fader).setup.holdFrames s.table.nextHold) := by
  have h1 := State.slotsOf_reSlot (sl' := sl.hold (s.fader sl.fader).setup.holdFrames s.table.nextHold) hn rfl
  unfold State.beginHold
  simp only [if_neg h, State.modFader_fader_self]
  exact ⟨rfl, h1⟩

theorem State.beginHold_entriesOf (s : State) (i : SlotId) (sl : Slot) (f : FaderId) :
    (s.beginHold i sl).entriesOf f = s.entriesOf f := by
  unfold State.beginHold; dsimp only; split <;> rfl

/-- A hold that takes over a slot with the ends `lo` and `hi` stands between them (R50). -/
theorem Slot.hold_setpointOk {sl : Slot} {c d : Calibration} (frames stamp : Nat) (h : sl.setpointOk c = true)
    (hn : ¬(sl.use = .homing ∧ sl.phase ≠ .park)) (hl : d.low = (sl.ends c).1) (hh : d.high = (sl.ends c).2) :
    (sl.hold frames stamp).setpointOk d = true := by
  obtain ⟨h1, h2, h3, h4, h5, h6⟩ := (Slot.setpointOk_iff hn).mp h
  exact Slot.setpointOk_of_record (by simp [Slot.hold]) ⟨by omega, by omega⟩ (hl ▸ h3) (hh ▸ h4) (hl ▸ h5) (hh ▸ h6)

theorem State.beginHold_acts {s : State} (hs : s.Sound) {i : SlotId} {sl : Slot} (hi : s.slot i = some sl)
    (hu : sl.use ≠ .homing) : Acts {sl.fader} s (s.beginHold i sl) := by
  obtain ⟨hm, he, hn⟩ := (hs sl.fader).driven_of_slot hi
  have hends := Slot.ends_of_not_park (fun h : sl.use = .homing ∧ sl.phase = .park => hu h.1) (s.fader sl.fader).cal
  have hrec := fun ht : s.TrackedAt sl.fader => ht.record_of_onlySlot hn (fun h => hu h.1)
  by_cases h : (s.fader sl.fader).setup.holdFrames = 0
  · obtain ⟨hx, hn'⟩ := State.beginHold_none hn h
    refine OnlyAt.acts_end (State.beginHold_only hi) hs ?_ (by simp [hm]) (by rw [hx]; rfl) (by simp [hx])
      ((State.beginHold_entriesOf ..).trans he) hn' (by rw [hx]) (fun hp => hx ▸ hp.inRange.2.1) (fun ht => hx ▸ hrec ht)
    constructor <;> rw [hx]
  · obtain ⟨hx, hn'⟩ := State.beginHold_some hn h
    refine OnlyAt.acts_drive (State.beginHold_only hi) hs ?_ (by simp [hm]) (by rw [hx]; rfl)
      ((State.beginHold_entriesOf ..).trans he) hn' (fun hp => hx ▸ hp.inRange.2.2) (fun hp => hx ▸ hp.inRange.2.1)
      (fun hp => ?_) (fun ht => ?_)
    · constructor <;> rw [hx]
    · exact Slot.hold_setpointOk _ _ (hp.setpointOk hi) (fun h' => hu h'.1) (by rw [hends]) (by rw [hends])
    · rw [hx, Slot.ends_of_not_park (by simp [Slot.hold])]
      exact hrec ht

/-! ### Ends on a good frame -/

theorem State.arrive_acts {s : State} (hs : s.Sound) {i : SlotId} {sl : Slot} (hi : s.slot i = some sl)
    (hu : sl.use ≠ .homing) : Acts {sl.fader} s (s.arrive i sl) := by
  have h1 := State.complete_acts hs sl.fader .arrived .none sl.cls sl.tag sl.marks
  have h2 := h1.trans (State.modFader_acts h1.sound (g := fun x => { x with offTarget := false })
    (by constructor <;> rfl) rfl rfl fun hp => hp.inRange.2.2)
  exact (h2.trans (State.beginHold_acts h2.sound (by simpa using hi) hu)).arbitrate

/-- The record of a fader whose homing ends Homed takes the pair found (R59, R68). -/
def Fader.homed (x : Fader) (sl : Slot) : Fader :=
  { x with
    offTarget := false
    cal :=
      { low := sl.foundLow.getD x.cal.low, high := sl.foundHigh.getD x.cal.high, calibrated := true, latched := false,
        cause := .none } }

theorem State.homed_acts {s : State} (hs : s.Sound) {i : SlotId} {sl : Slot} (hi : s.slot i = some sl)
    (hu : sl.use = .homing) (hpark : sl.phase = .park) : Acts {sl.fader} s (s.homed i sl) := by
  obtain ⟨hm, he, hn⟩ := (hs sl.fader).driven_of_slot hi
  have hends : sl.ends (s.fader sl.fader).cal =
      (((s.fader sl.fader).homed sl).cal.low, ((s.fader sl.fader).homed sl).cal.high) := if_pos ⟨hu, hpark⟩
  have hseek : ¬(sl.use = .homing ∧ sl.phase ≠ .park) := fun h => h.2 hpark
  set u := ((s.complete sl.fader .homed .none .home 0 sl.marks).modFader sl.fader fun x => x.homed sl) with hu'
  have hux : u.fader sl.fader = (s.fader sl.fader).homed sl := by simp [hu']
  have hun : u.slotsOf sl.fader = onlySlot i sl := by simpa [hu'] using hn
  have hui : u.slot i = some sl := by simpa [hu'] using hi
  have hue : u.entriesOf sl.fader = [] := by simpa [hu'] using he
  have honly : OnlyAt sl.fader s (u.beginHold i sl) :=
    ((OnlyAt.complete ..).trans (.modFader ..)).trans (State.beginHold_only hui)
  have hserv : s.Servable sl.fader := (hs sl.fader).servable.resolve_left (by simp [hm])
  -- What either kind of hold leaves is sound, placed and tracked under the pair found.
  have key : ∀ {t : State} {m : MotionState}, OnlyAt sl.fader s t → t.Served sl.fader → m ≠ .absent →
      t.fader sl.fader = { (s.fader sl.fader).homed sl with motion := m } →
      (∀ j sl', t.slotsOf sl.fader j = some sl' → s.PlacedAt sl.fader →
        sl'.setpointOk ((s.fader sl.fader).homed sl).cal = true) →
      t.calInForce sl.fader = sl.ends (s.fader sl.fader).cal → Acts {sl.fader} s t := by
    intro t m h hserved hm' hx hslots hcal
    have habs : s.onBay sl.fader = true :=
      Bool.not_eq_false _ ▸ fun h => by have := (hs sl.fader).absent.mpr h; simp [hm] at this
    refine h.acts hs ⟨⟨hserved, ?_, ?_, .inr ⟨?_, ?_, ?_⟩⟩, fun hp => ⟨?_, ?_, ?_, ?_, ?_⟩, fun ht => ?_, fun hpe => ?_⟩ ?_ ?_
    · rw [State.onBay_congr h.frame.bays, hx]; simp [hm', habs]
    · rw [hx]; exact fun h => absurd h hm'
    · rw [hx]; exact hserv.untouched
    · rw [hx]; exact hserv.enabled
    · rw [State.supplyFaulted_congr h.frame.bays]; exact hserv.supplied
    · rw [h.frame.law]; exact hp.taper
    · rw [h.frame.setup]; exact hp.span
    · have hb := (Slot.setpointOk_iff hseek).mp (hp.setpointOk hi)
      rw [hends] at hb
      rw [hx]; exact ⟨hb.1, hb.2.1⟩
    · rw [hx]; exact fun j sl' hj => hslots j sl' hj hp
    · rw [hx]; exact hp.inRange
    · unfold State.TrackedAt
      rw [hcal, hx]; exact ht.ends_of_onlySlot hn
    · unfold State.PendedAt
      rw [hx]; exact hpe
    · rw [hx]; rfl
    · rw [hx]; rfl
  refine Acts.arbitrate (t := u.beginHold i sl) ?_
  by_cases h : (u.fader sl.fader).setup.holdFrames = 0
  · obtain ⟨hx, hn'⟩ := State.beginHold_none hun h
    rw [hux] at hx
    refine key honly (.free (by rw [hx]; rfl) ((State.beginHold_entriesOf ..).trans hue) hn') (by simp) hx
      (by simp [hn', noSlot]) ?_
    rw [State.calInForce_of_noSlot hn', hx, hends]
  · obtain ⟨hx, hn'⟩ := State.beginHold_some hun h
    rw [hux] at hx
    refine key honly (.driven i _ (by rw [hx]; rfl) ((State.beginHold_entriesOf ..).trans hue) hn') (by simp) hx
      (fun j sl' hj hp => ?_) ?_
    · rw [hn', onlySlot_eq_some] at hj
      rw [hj.2]
      exact Slot.hold_setpointOk _ _ (hp.setpointOk hi) hseek (by rw [hends]) (by rw [hends])
    · rw [State.calInForce_of_onlySlot hn', Slot.ends_of_not_park (by simp [Slot.hold]), hx, hends]

theorem State.stallMove_acts {s : State} (hs : s.Sound) {i : SlotId} {sl : Slot} (hi : s.slot i = some sl)
    (hu : sl.use ≠ .homing) : Acts {sl.fader} s (s.stallMove i sl) := by
  obtain ⟨hm, he, hn⟩ := (hs sl.fader).driven_of_slot hi
  refine Acts.arbitrate (OnlyAt.acts_end
    ((((OnlyAt.complete ..).trans (.freeSlot hi)).trans (.modFader ..)).trans (.raise _ _ (by decide))) hs ?_ (by simp [hm]) ?_ ?_ ?_ ?_
    ?_ (fun hp => ?_) (fun ht => ?_))
  · constructor <;> simp [State.latchFault]
  · simp [State.latchFault, MotionState.free]
  · simp [State.latchFault]
  · simpa [State.latchFault] using he
  · simp [State.latchFault, hn]
  · simp [State.latchFault]
  · simpa [State.latchFault] using hp.inRange.2.1
  · simpa [State.latchFault] using ht.record_of_onlySlot hn (fun h => hu h.1)

/-- A homing's slot is dropped and its fader's record takes a free motion state. -/
theorem State.dropHoming_modFader_acts {s : State} (hs : s.Sound) {i : SlotId} {sl : Slot} (hi : s.slot i = some sl)
    (hu : sl.use = .homing) {g : Fader → Fader} (hg : ∀ x : Fader, x.Alike (g x)) (hfree : ∀ x, (g x).motion.free = true)
    (hnot : ∀ x, (g x).motion ≠ .absent) (ht : ∀ x, (g x).targetPos = x.targetPos)
    (hp : ∀ x, (g x).perMille = x.perMille) : Acts {sl.fader} s ((s.dropHoming i sl).modFader sl.fader g) := by
  have hx := State.dropHoming_fader ((hs sl.fader).driven_of_slot hi).2.2
  have ha := hg ((s.dropHoming i sl).fader sl.fader)
  refine State.homing_acts_end hs hi hu ((State.dropHoming_only hi).trans (.modFader ..)) ?_ ?_ ?_ rfl rfl ?_ ?_
  · rw [State.modFader_fader_self]
    exact ⟨by rw [ha.touch, hx], by rw [ha.stale, hx], by rw [ha.inhibit, hx], by rw [ha.pending, hx], by rw [ha.raw, hx],
      by rw [ha.low, hx], by rw [ha.high, hx]⟩
  · rw [State.modFader_fader_self]; exact hfree _
  · rw [State.modFader_fader_self]; exact hnot _
  · rw [State.modFader_fader_self, ht, hx]
  · rw [State.modFader_fader_self, hp]

theorem State.stallPark_acts {s : State} (hs : s.Sound) {i : SlotId} {sl : Slot} (hi : s.slot i = some sl)
    (hu : sl.use = .homing) : Acts {sl.fader} s (s.stallPark i sl) := by
  have h1 := State.complete_acts hs sl.fader .stalled .none .home 0 sl.marks
  have h2 := h1.trans (State.dropHoming_modFader_acts h1.sound (by simpa using hi) hu
    (g := fun x => { x with motion := .faulted, offTarget := true, cal := { x.cal with latched := true, cause := .stall } })
    (fun _ => by constructor <;> rfl) (fun _ => rfl) (by simp) (fun _ => rfl) (fun _ => rfl))
  exact (h2.trans (State.raise_acts h2.sound _ (by decide))).arbitrate

/-- What `State.dropHoming` reads of a slot is its fader and its phase. -/
theorem State.dropHoming_congr (s : State) (i : SlotId) {sl sl' : Slot} (hf : sl'.fader = sl.fader)
    (hp : sl'.phase = sl.phase) : s.dropHoming i sl' = s.dropHoming i sl := by
  simp only [State.dropHoming, hf, hp]

theorem State.failHoming_acts {s : State} (hs : s.Sound) {i : SlotId} {sl sl' : Slot} (hi : s.slot i = some sl)
    (hu : sl.use = .homing) (hf : sl'.fader = sl.fader) (hp : sl'.phase = sl.phase) (c : FaultCause) :
    Acts {sl.fader} s (s.failHoming i sl' c) := by
  have hx := State.dropHoming_fader ((hs sl.fader).driven_of_slot hi).2.2
  unfold State.failHoming
  rw [s.dropHoming_congr i hf hp, hf]
  refine (State.homing_acts_end hs hi hu ((((State.dropHoming_only hi).trans (.complete ..)).trans (.modFader ..)).trans
    (.raise _ _ (by decide))) ?_ ?_ ?_ rfl rfl ?_ ?_).arbitrate
  · constructor <;> simp [hx]
  all_goals simp [hx, MotionState.free]

/-! ### A good frame -/

/-- A setpoint that moves toward its target stays between any ends that both lie between (R50). -/
theorem advance_bounds {lo hi a b : Nat} (n : Nat) (ha : lo ≤ a ∧ a ≤ hi) (hb : lo ≤ b ∧ b ≤ hi) :
    lo ≤ advance a b n ∧ advance a b n ≤ hi := by
  unfold advance; split <;> omega

/-- The fields of a slot that a servo frame leaves. -/
theorem Slot.servoFrame_keeps (sl : Slot) (x : Fader) :
    (sl.servoFrame x).fader = sl.fader ∧ (sl.servoFrame x).use = sl.use ∧ (sl.servoFrame x).phase = sl.phase ∧
      (sl.servoFrame x).foundLow = sl.foundLow ∧ (sl.servoFrame x).foundHigh = sl.foundHigh ∧
      (sl.servoFrame x).targetRaw = sl.targetRaw ∧ (sl.servoFrame x).setpoint = advance sl.setpoint sl.targetRaw sl.step := by
  unfold Slot.servoFrame Slot.trackStall
  dsimp only
  split
  · simp
  · split <;> simp

/-- A servo frame served on a slot, with whatever stall run and reference, is an action on its fader. -/
theorem State.servo_acts {s : State} (hs : s.Sound) {i : SlotId} {sl : Slot} (hi : s.slot i = some sl)
    (hseek : ¬(sl.use = .homing ∧ sl.phase ≠ .park)) (x : Fader) (run : Nat) (ref : Option Nat) :
    Acts {sl.fader} s (s.setSlot i (some { sl.servoFrame x with stallRun := run, stallRef := ref })) := by
  obtain ⟨hf, hu, hp, hl, hh, ht, hset⟩ := sl.servoFrame_keeps x
  have hends : ({ sl.servoFrame x with stallRun := run, stallRef := ref } : Slot).ends (s.fader sl.fader).cal =
      sl.ends (s.fader sl.fader).cal := by
    simp only [Slot.ends, hu, hp, hl, hh]
  refine State.reSlot_acts hs hi hf hu hends fun hpl => ?_
  have hok := hpl.setpointOk hi
  obtain ⟨-, -, h3, h4, h5, h6⟩ := (Slot.setpointOk_iff hseek).mp hok
  exact Slot.setpointOk_of_ends hok hseek hends (hset ▸ advance_bounds sl.step ⟨h3, h4⟩ ⟨h5, h6⟩) (ht ▸ ⟨h5, h6⟩)

theorem State.serveMove_acts {s : State} (hs : s.Sound) {i : SlotId} {sl : Slot} (hi : s.slot i = some sl)
    (hu : sl.use ≠ .homing) : Acts {sl.fader} s (s.serveMove i sl) := by
  have hseek : ¬(sl.use = .homing ∧ sl.phase ≠ .park) := fun h => hu h.1
  obtain ⟨hf, hu', -⟩ := sl.servoFrame_keeps (s.fader sl.fader)
  have h1 := State.servo_acts hs hi hseek (s.fader sl.fader) (sl.servoFrame (s.fader sl.fader)).stallRun
    (sl.servoFrame (s.fader sl.fader)).stallRef
  have hi1 : (s.setSlot i (some (sl.servoFrame (s.fader sl.fader)))).slot i = some (sl.servoFrame (s.fader sl.fader)) :=
    s.setSlot_slot_self ..
  unfold State.serveMove
  dsimp only
  split
  · exact h1.trans (Acts.mono (State.arrive_acts h1.sound hi1 (hu' ▸ hu)) (by rw [hf]))
  · split
    · split
      · exact h1.trans (Acts.mono (State.stallMove_acts h1.sound hi1 (hu' ▸ hu)) (by rw [hf]))
      · exact State.servo_acts hs hi hseek (s.fader sl.fader) 0 none
    · exact h1

theorem State.servePark_acts {s : State} (hs : s.Sound) {i : SlotId} {sl : Slot} (hi : s.slot i = some sl)
    (hu : sl.use = .homing) (hpark : sl.phase = .park) : Acts {sl.fader} s (s.servePark i sl) := by
  have hseek : ¬(sl.use = .homing ∧ sl.phase ≠ .park) := fun h => h.2 hpark
  obtain ⟨hf, hu', hp', -⟩ := sl.servoFrame_keeps (s.fader sl.fader)
  have h1 := State.servo_acts hs hi hseek (s.fader sl.fader) (sl.servoFrame (s.fader sl.fader)).stallRun
    (sl.servoFrame (s.fader sl.fader)).stallRef
  have hi1 : (s.setSlot i (some (sl.servoFrame (s.fader sl.fader)))).slot i = some (sl.servoFrame (s.fader sl.fader)) :=
    s.setSlot_slot_self ..
  unfold State.servePark
  dsimp only
  split
  · exact h1.trans (Acts.mono (State.homed_acts h1.sound hi1 (hu'.trans hu) (hp'.trans hpark)) (by rw [hf]))
  · split
    · split
      · exact h1.trans (Acts.mono (State.stallPark_acts h1.sound hi1 (hu'.trans hu)) (by rw [hf]))
      · exact State.servo_acts hs hi hseek (s.fader sl.fader) 0 none
    · exact h1

theorem State.serveHold_acts {s : State} (hs : s.Sound) {i : SlotId} {sl : Slot} (hi : s.slot i = some sl) :
    Acts {sl.fader} s (s.serveHold i sl) :=
  State.reSlot_acts hs hi rfl rfl rfl fun hp => hp.setpointOk hi

/-- A homing in Down or Up takes new contents in Down or Up (R63, R64). -/
theorem State.seek_acts {s : State} (hs : s.Sound) {i : SlotId} {sl sl' : Slot} (hi : s.slot i = some sl)
    (hu : sl.use = .homing) (hp : sl.phase ≠ .park) (hf : sl'.fader = sl.fader) (hu' : sl'.use = .homing)
    (hp' : sl'.phase ≠ .park) : Acts {sl.fader} s (s.setSlot i (some sl')) :=
  State.reSlot_acts hs hi hf (hu'.trans hu.symm)
    (by rw [Slot.ends_of_not_park (fun h => hp' h.2), Slot.ends_of_not_park (fun h => hp h.2)])
    fun _ => Slot.setpointOk_of_seeking ⟨hu', hp'⟩

theorem Slot.trackStill_keeps (sl : Slot) (raw : Nat) :
    (sl.trackStill raw).fader = sl.fader ∧ (sl.trackStill raw).use = sl.use ∧ (sl.trackStill raw).phase = sl.phase := by
  unfold Slot.trackStill; split <;> exact ⟨rfl, rfl, rfl⟩

theorem Slot.driveOn_keeps (sl : Slot) (b : Bool) (raw : Nat) (d : Int) :
    (sl.driveOn b raw d).fader = sl.fader ∧ (sl.driveOn b raw d).use = sl.use ∧ (sl.driveOn b raw d).phase = sl.phase := by
  unfold Slot.driveOn; split <;> exact ⟨rfl, rfl, rfl⟩

/-- A frame that does not find a homing still is an action on its fader (R63, R64). -/
theorem State.driveOn_acts {s : State} (hs : s.Sound) {i : SlotId} {sl : Slot} (hi : s.slot i = some sl)
    (hu : sl.use = .homing) (hp : sl.phase ≠ .park) (raw : Nat) (b : Bool) (d : Int) :
    Acts {sl.fader} s (s.setSlot i (some ((sl.trackStill raw).driveOn b raw d))) := by
  obtain ⟨h1, h2, h3⟩ := sl.trackStill_keeps raw
  obtain ⟨k1, k2, k3⟩ := (sl.trackStill raw).driveOn_keeps b raw d
  exact State.seek_acts hs hi hu hp (k1.trans h1) (k2.trans (h2.trans hu)) (by rw [k3, h3]; exact hp)

theorem State.serveDown_acts {s : State} (hs : s.Sound) {i : SlotId} {sl : Slot} (hi : s.slot i = some sl)
    (hu : sl.use = .homing) (hp : sl.phase = .down) : Acts {sl.fader} s (s.serveDown i sl) := by
  have hnp : sl.phase ≠ .park := by simp [hp]
  obtain ⟨h1, h2, -⟩ := sl.trackStill_keeps (s.fader sl.fader).raw
  unfold State.serveDown
  dsimp only
  split
  · exact State.seek_acts hs hi hu hnp h1 (h2.trans hu) (by simp)
  · exact State.driveOn_acts hs hi hu hnp ..
  · exact State.driveOn_acts hs hi hu hnp ..

theorem Fader.parkPos_le {x : Fader} (h : x.targetPos ≤ 1000) : x.parkPos ≤ 1000 := by
  unfold Fader.parkPos; split
  · exact Nat.zero_le _
  · exact h

/-- The slot as Park begins under the pair found, toward `target` (R67). -/
def Slot.parked (sl : Slot) (x : Fader) (low high target : Nat) : Slot :=
  { sl with
    phase := .park, foundLow := some low, foundHigh := some high, targetRaw := target, setpoint := x.raw,
    step := stepFor x.raw target sl.ramp x.setup.slewLimit, settle := 0, age := 0, stallRun := 0, stallRef := none,
    stillRun := 0, stillRef := none, phaseAge := 0, drive := 0 }

theorem State.beginPark_eq (s : State) (i : SlotId) (sl : Slot) (low high : Nat) :
    s.beginPark i sl low high =
      (s.setSlot i (some (sl.parked (s.fader sl.fader) low high
        (rawOfPerMille low high (s.fader sl.fader).parkPos)))).refreshPerMille sl.fader := rfl

/-- Park begins under a pair found that spans the least span (R64, R67). -/
theorem State.beginPark_acts {s : State} (hs : s.Sound) {i : SlotId} {sl sl' : Slot} {low : Nat}
    (hi : s.slot i = some sl) (hu : sl.use = .homing) (hf : sl'.fader = sl.fader) (hu' : sl'.use = .homing)
    (hspan : low + s.setup.minSpan ≤ (s.fader sl.fader).raw) :
    Acts {sl.fader} s (s.beginPark i sl' low (s.fader sl.fader).raw) := by
  obtain ⟨hm, he, hn⟩ := (hs sl.fader).driven_of_slot hi
  rw [State.beginPark_eq, hf]
  set park := sl'.parked (s.fader sl.fader) low (s.fader sl.fader).raw
    (rawOfPerMille low (s.fader sl.fader).raw (s.fader sl.fader).parkPos)
  have hpf : park.fader = sl.fader := hf
  have hpu : park.use = .homing := hu'
  have hends : ∀ c, park.ends c = (low, (s.fader sl.fader).raw) := fun c => by
    exact if_pos ⟨hu', rfl⟩
  have hn' : (s.setSlot i (some park)).slotsOf sl.fader = onlySlot i park := State.slotsOf_reSlot hn hpf
  have hpm : ((s.setSlot i (some park)).refreshPerMille sl.fader).fader sl.fader = { s.fader sl.fader with
      perMille := perMilleOfRaw low (s.fader sl.fader).raw (s.fader sl.fader).raw } := by
    simp [State.refreshPerMille, State.calInForce_of_onlySlot hn', hends]
  refine OnlyAt.acts_drive (i := i) (sl := park) ((OnlyAt.reSlot hi hpf).trans (.refreshPerMille ..)) hs ?_ (by simp [hm])
    ?_ ?_ ?_ (fun hpl => ?_) (fun hpl => ?_) (fun hpl => ?_) (fun ht => ?_)
  · constructor <;> rw [hpm]
  · rw [hpm, hpu, ← hu]; exact hm
  · simpa [State.refreshPerMille] using he
  · simpa [State.refreshPerMille] using hn'
  · rw [hpm]; exact hpl.inRange.2.2
  · rw [hpm]; exact perMilleOfRaw_le ..
  · have h1 := hpl.span
    have h2 := hpl.inRange
    have hlt : low < (s.fader sl.fader).raw := by omega
    rw [Slot.setpointOk_iff (fun h => h.2 rfl), hends]
    exact ⟨hlt, h2.1, hlt.le, le_rfl, le_rawOfPerMille hlt.le _, rawOfPerMille_le hlt.le (Fader.parkPos_le h2.2.2)⟩
  · rw [hpm, hends]

theorem State.serveUp_acts {s : State} (hs : s.Sound) {i : SlotId} {sl : Slot} (hi : s.slot i = some sl)
    (hu : sl.use = .homing) (hp : sl.phase = .up) : Acts {sl.fader} s (s.serveUp i sl) := by
  have hnp : sl.phase ≠ .park := by simp [hp]
  obtain ⟨h1, h2, h3⟩ := sl.trackStill_keeps (s.fader sl.fader).raw
  unfold State.serveUp
  dsimp only
  split
  · split
    · next hspan => exact State.beginPark_acts hs hi hu h1 (h2.trans hu) hspan
    · exact State.failHoming_acts hs hi hu h1 h3 _
  · exact State.driveOn_acts hs hi hu hnp ..
  · exact State.driveOn_acts hs hi hu hnp ..

/-- A slot that takes a good frame of its fader's bay is an action on its fader (R49). -/
theorem State.serveSlot_acts {s : State} (hs : s.Sound) {i : SlotId} {sl : Slot} (hi : s.slot i = some sl) :
    Acts {sl.fader} s (s.serveSlot i sl) := by
  unfold State.serveSlot
  split
  · next hu => exact State.serveMove_acts hs hi (by simp [hu])
  · exact State.serveHold_acts hs hi
  · next hu =>
    split
    · next hp => exact State.serveDown_acts hs hi hu hp
    · next hp => exact State.serveUp_acts hs hi hu hp
    · next hp => exact State.servePark_acts hs hi hu hp

theorem State.serveFader_acts {s : State} (hs : s.Sound) (f : FaderId) (b : Bool) : Acts {f} s (s.serveFader f b) := by
  unfold State.serveFader
  split
  · split
    · exact .refl hs
    · next h =>
      obtain ⟨hi, rfl⟩ := State.slotFor_some h
      exact State.serveSlot_acts hs hi
  · exact .refl hs

/-! ### A frame expiry -/

theorem State.timeoutMove_acts {s : State} (hs : s.Sound) {i : SlotId} {sl : Slot} (hi : s.slot i = some sl)
    (hu : sl.use = .moving) : Acts {sl.fader} s (s.timeoutMove i sl) := by
  have h1 := State.endMove_acts hs hi hu .timedOut
  have h2 := h1.trans (State.modFader_acts h1.sound (g := fun x => { x with cal := { x.cal with cause := .timedOut } })
    (by constructor <;> rfl) rfl rfl fun hp => hp.inRange.2.2)
  exact (h2.trans (State.raise_acts h2.sound _ (by decide))).arbitrate

theorem State.timeoutPark_acts {s : State} (hs : s.Sound) {i : SlotId} {sl : Slot} (hi : s.slot i = some sl)
    (hu : sl.use = .homing) : Acts {sl.fader} s (s.timeoutPark i sl) := by
  have h1 := State.complete_acts hs sl.fader .timedOut .none .home 0 sl.marks
  have h2 := h1.trans (State.dropHoming_modFader_acts h1.sound (by simpa using hi) hu
    (g := fun x => { x with motion := x.cal.motion, offTarget := true, cal := { x.cal with cause := .timedOut } })
    (fun _ => by constructor <;> rfl) (fun x => Calibration.motion_free x.cal) (by simp) (fun _ => rfl) (fun _ => rfl))
  exact (h2.trans (State.raise_acts h2.sound _ (by decide))).arbitrate

/-- What a frame expiry ends in a slot is an action on its fader, if anything (R54, R55, R65, R68). -/
theorem State.judgeSlot_acts {s : State} (hs : s.Sound) (i : SlotId) : Acts Set.univ s (s.judgeSlot i) := by
  unfold State.judgeSlot
  split
  · exact .refl hs
  · next sl hi =>
    refine Acts.mono (P := {sl.fader}) ?_ (Set.subset_univ _)
    split
    · next h =>
      simp only [Slot.moveTimedOut, Bool.and_eq_true, beq_iff_eq] at h
      exact State.timeoutMove_acts hs hi h.1
    · split
      · next h =>
        simp only [Slot.parkTimedOut, Bool.and_eq_true, beq_iff_eq] at h
        exact State.timeoutPark_acts hs hi h.1.1
      · split
        · next h =>
          simp only [Slot.holdExpired, Bool.and_eq_true, beq_iff_eq] at h
          exact (State.endHold_acts hs hi h.1).arbitrate
        · split
          · next h =>
            simp only [Slot.homeLimitPassed, Bool.and_eq_true, beq_iff_eq] at h
            exact State.failHoming_acts hs hi h.1.1 rfl rfl _
          · exact .refl hs

end Sys2Proof.Machine
end

section
/-! What a step keeps of every fader at once: changes of all faders or all slots that the invariants do not see, and a fold of
actions of which each is about one fader. -/

namespace Sys2Proof.Machine

/-- From `s` to `t` the invariants of every fader are kept. -/
def State.Keeps (s t : State) : Prop :=
  ∀ g, s.Kept t g

theorem State.Keeps.sound {s t : State} (h : s.Keeps t) : t.Sound :=
  fun g => (h g).sound

theorem State.Keeps.trans {s t u : State} (h : s.Keeps t) (k : t.Keeps u) : s.Keeps u :=
  fun g => (h g).trans (k g)

theorem Acts.keeps {P : Set FaderId} {s t : State} (h : Acts P s t) : s.Keeps t :=
  h.kept

theorem State.Sound.keeps {s : State} (hs : s.Sound) : s.Keeps s :=
  (Acts.refl (P := ∅) hs).keeps

/-! ### Changes that the invariants do not see -/

/-- Two slots that differ in nothing that the invariants read. -/
structure Slot.Alike (sl sl' : Slot) : Prop where
  fader : sl'.fader = sl.fader
  use : sl'.use = sl.use
  ends : ∀ c, sl'.ends c = sl.ends c
  setpointOk : ∀ c, sl'.setpointOk c = sl.setpointOk c

/-- Two slots of the same phase, ends and setpoint are alike. -/
theorem Slot.Alike.of_fields {sl sl' : Slot} (hf : sl'.fader = sl.fader) (hu : sl'.use = sl.use) (hp : sl'.phase = sl.phase)
    (hl : sl'.foundLow = sl.foundLow) (hh : sl'.foundHigh = sl.foundHigh) (hs : sl'.setpoint = sl.setpoint)
    (ht : sl'.targetRaw = sl.targetRaw) : sl.Alike sl' := by
  have he : ∀ c, sl'.ends c = sl.ends c := fun c => by simp only [Slot.ends, hu, hp, hl, hh]
  exact ⟨hf, hu, he, fun c => by simp only [Slot.setpointOk, he, hu, hp, hs, ht]⟩

theorem Slot.Alike.refl (sl : Slot) : sl.Alike sl :=
  ⟨rfl, rfl, fun _ => rfl, fun _ => rfl⟩

/-- What the invariants read of the settings: a taper table of R10 stays one, and a least span above 0 stays above 0. -/
structure State.SetupKept (s t : State) : Prop where
  taper : taperOk s.law.taper = true → taperOk t.law.taper = true
  span : 1 ≤ s.setup.minSpan → 1 ≤ t.setup.minSpan

theorem State.SetupKept.of_eq {s t : State} (hl : t.law = s.law) (hg : t.setup = s.setup) : s.SetupKept t :=
  ⟨by rw [hl]; exact id, by rw [hg]; exact id⟩

/-- What the invariants read of the bay of a fader that something may serve. -/
structure State.BayKept (s t : State) (f : FaderId) : Prop where
  onBay : t.onBay f = s.onBay f
  supply : (s.fader f).motion.free = true ∨ t.supplyFaulted f = s.supplyFaulted f

theorem State.BayKept.of_eq {s t : State} (h : t.bays = s.bays) (f : FaderId) : s.BayKept t f :=
  ⟨State.onBay_congr h f, .inr (State.supplyFaulted_congr h f)⟩

theorem map_onlySlot (g : SlotId → Slot → Slot) (i : SlotId) (sl : Slot) :
    (fun j => (onlySlot i sl j).map (g j)) = onlySlot i (g i sl) := by
  funext j
  by_cases h : j = i
  · subst h; simp [onlySlot]
  · simp [onlySlot, Function.update_of_ne h, noSlot]

/-- A fader whose record, entries and slots differ in nothing that the invariants read is kept. -/
theorem State.kept_of_alike {s t : State} {f : FaderId} (hs : s.SoundAt f) (hset : s.SetupKept t) (hbay : s.BayKept t f)
    (ha : (s.fader f).Alike (t.fader f)) (hm : (t.fader f).motion = (s.fader f).motion)
    (hp : (t.fader f).perMille = (s.fader f).perMille) (ht : s.PlacedAt f → (t.fader f).targetPos ≤ 1000)
    (he : t.entriesOf f = s.entriesOf f) {g : SlotId → Slot → Slot} (hg : ∀ i sl, s.slot i = some sl → sl.Alike (g i sl))
    (hn : ∀ i, t.slotsOf f i = (s.slotsOf f i).map (g i)) : s.Kept t f := by
  have hnone : s.slotsOf f = noSlot → t.slotsOf f = noSlot := fun h => funext fun i => by rw [hn, h]; rfl
  have honly : ∀ {i sl}, s.slotsOf f = onlySlot i sl → t.slotsOf f = onlySlot i (g i sl) ∧ sl.Alike (g i sl) :=
    fun {i sl} h =>
      ⟨(funext fun j => by rw [hn, h] : t.slotsOf f = fun j => (onlySlot i sl j).map (g j)).trans (map_onlySlot g i sl),
        hg i sl (State.slot_of_onlySlot h).1⟩
  refine ⟨⟨?_, ?_, ?_, ?_⟩, fun hpl => ⟨hset.taper hpl.taper, hset.span hpl.span, ?_, ?_, ?_⟩, fun htr => ?_,
    fun hpe => hpe.of_alike ha⟩
  · cases hs.served with
    | free m e n => exact .free (hm ▸ m) (he.trans e) (hnone n)
    | waits d m e n => exact .waits d (hm.trans m) (he.trans e) (hnone n)
    | driven i sl m e n =>
      obtain ⟨h1, h2⟩ := honly n
      exact .driven i (g i sl) (by rw [hm, m, h2.use]) (he.trans e) h1
  · rw [hm, hbay.onBay]; exact hs.absent
  · rw [hm, ha.touch, ha.stale]; exact hs.gone
  · rw [hm]
    refine hbay.supply.elim .inl fun hb => hs.servable.imp_right fun h => ⟨?_, ?_, hb.trans h.supplied⟩
    · rw [Fader.held_congr ha.touch]; exact h.untouched
    · rw [ha.inhibit]; exact h.enabled
  · unfold Calibration.ok; rw [ha.low, ha.high]; exact hpl.cal
  · intro i sl h
    rw [hn] at h
    obtain ⟨sl', h1, rfl⟩ := Option.map_eq_some_iff.mp h
    rw [(g i sl').setpointOk_congr ha.low ha.high, (hg i sl' (State.slotsOf_eq_some.mp h1).1).setpointOk]
    exact hpl.slots i sl' h1
  · exact ⟨ha.raw ▸ hpl.inRange.1, hp ▸ hpl.inRange.2.1, ht hpl⟩
  · unfold State.TrackedAt at htr ⊢
    rw [hp, ha.raw, htr]
    have hrec : s.slotsOf f = noSlot → t.calInForce f = s.calInForce f := fun n => by
      rw [State.calInForce_of_noSlot n, State.calInForce_of_noSlot (hnone n), ha.low, ha.high]
    have hcal : t.calInForce f = s.calInForce f := by
      cases hs.served with
      | free _ _ n => exact hrec n
      | waits _ _ _ n => exact hrec n
      | driven i sl _ _ n =>
        obtain ⟨h1, h2⟩ := honly n
        rw [State.calInForce_of_onlySlot n, State.calInForce_of_onlySlot h1, Slot.ends_congr _ ha.low ha.high, h2.ends]
    rw [hcal]

/-- A fader of which nothing changes but, perhaps, its bay. -/
theorem State.SameAt.kept_of_bay {s t : State} {f : FaderId} (h : s.SameAt t f) (hs : s.SoundAt f) (hset : s.SetupKept t)
    (hbay : s.BayKept t f) : s.Kept t f :=
  State.kept_of_alike hs hset hbay (by rw [h.fader]; constructor <;> rfl) (by rw [h.fader]) (by rw [h.fader])
    (fun hp => by rw [h.fader]; exact hp.inRange.2.2) h.entries (g := fun _ sl => sl) (fun _ sl _ => .refl sl)
    (fun i => by rw [h.slots, Option.map_id'])

/-- A step that changes faders, queue, slots and bays not at all, and keeps the taper table and the least span sound. -/
theorem State.Sound.keeps_of_same {s t : State} (hs : s.Sound) (hset : s.SetupKept t) (hf : t.faders = s.faders)
    (hq : t.queue.entries = s.queue.entries) (hn : t.table.slots = s.table.slots) (hb : t.bays = s.bays) : s.Keeps t :=
  fun g => State.SameAt.kept_of_bay
    ⟨by simp [State.fader, hf], by simp [State.entriesOf, hq], by unfold State.slotsOf State.slot; rw [hn]⟩
    (hs g) hset (.of_eq hb g)

/-- A step that changes every slot in what the invariants do not see, and nothing else. -/
theorem State.Sound.keeps_of_slots {s t : State} (hs : s.Sound) {g : SlotId → Slot → Slot}
    (hg : ∀ i (sl : Slot), sl.Alike (g i sl)) (hl : t.law = s.law) (hu : t.setup = s.setup) (hf : t.faders = s.faders)
    (hq : t.queue.entries = s.queue.entries) (hn : ∀ i, t.slot i = (s.slot i).map (g i)) (hb : t.bays = s.bays) :
    s.Keeps t := by
  have hx : ∀ f, t.fader f = s.fader f := fun f => by simp [State.fader, hf]
  refine fun f => State.kept_of_alike (hs f) (.of_eq hl hu) (.of_eq hb f) (by rw [hx]; constructor <;> rfl) (by rw [hx])
    (by rw [hx]) (fun hp => by rw [hx]; exact hp.inRange.2.2) (by simp [State.entriesOf, hq]) (fun i sl _ => hg i sl)
    fun i => ?_
  simp only [State.slotsOf, hn]
  cases s.slot i with
  | none => rfl
  | some sl => by_cases h : sl.fader = f <;> simp [Option.filter_some, (hg i sl).fader, h]

/-- A step that changes every fader record in what the invariants do not see, and nothing else. -/
theorem State.Sound.keeps_of_faders {s : State} (hs : s.Sound) {g : FaderId → Fader → Fader}
    (ha : ∀ f (x : Fader), x.Alike (g f x)) (hm : ∀ f x, (g f x).motion = x.motion) (hp : ∀ f x, (g f x).perMille = x.perMille)
    (ht : ∀ f x, (g f x).targetPos = x.targetPos) : s.Keeps (s.mapFaders g) :=
  fun f => State.kept_of_alike (hs f) (.of_eq (by simp) (by simp)) (.of_eq (by simp) f) (by simpa using ha f _)
    (by simpa using hm f _) (by simpa using hp f _) (fun hpl => by simpa [ht] using hpl.inRange.2.2)
    (by simp [State.entriesOf]) (g := fun _ sl => sl) (fun _ sl _ => .refl sl) (fun i => by simp [State.slotsOf])

/-! ### Folds -/

/-- A fold of steps that each keep the invariants keeps them. -/
theorem State.Sound.keeps_foldl {α : Type} {act : State → α → State} {P : State → Prop} {l : List α} {s : State} (hs : s.Sound)
    (hP : P s) (h : ∀ (t : State) a, a ∈ l → t.Sound → P t → t.Keeps (act t a) ∧ P (act t a)) : s.Keeps (l.foldl act s) := by
  induction l generalizing s with
  | nil => exact hs.keeps
  | cons a rest ih =>
    obtain ⟨h1, h2⟩ := h s a List.mem_cons_self hs hP
    exact h1.trans (ih h1.sound h2 fun t b hb => h t b (List.mem_cons_of_mem _ hb))

theorem State.SameAt.refl (s : State) (g : FaderId) : s.SameAt s g :=
  ⟨rfl, rfl, rfl⟩

theorem State.SameAt.trans {s t u : State} {g : FaderId} (h : s.SameAt t g) (k : t.SameAt u g) : s.SameAt u g :=
  ⟨k.fader.trans h.fader, k.entries.trans h.entries, k.slots.trans h.slots⟩

/-- A fold of steps that are each about one fader, and read of the state no more than that fader's part of it, does to each
fader its own step, and nothing to any other fader. -/
theorem foldl_onlyAt {α : Type} {act : State → α → State} {F : α → FaderId} {P : State → Prop} {l : List α} {s : State}
    (hnd : (l.map F).Nodup) (hP : ∀ t a, P t → P (act t a)) (honly : ∀ t a, P t → OnlyAt (F a) t (act t a))
    (hcongr : ∀ s t a, P s → P t → s.SameAt t (F a) → (act s a).SameAt (act t a) (F a)) (hs : P s) :
    P (l.foldl act s) ∧ (∀ g, (∀ a ∈ l, F a ≠ g) → s.SameAt (l.foldl act s) g) ∧
      ∀ a ∈ l, (act s a).SameAt (l.foldl act s) (F a) := by
  induction l generalizing s with
  | nil => exact ⟨hs, fun g _ => .refl s g, by simp⟩
  | cons a rest ih =>
    obtain ⟨hna, hnr⟩ := List.nodup_cons.mp hnd
    obtain ⟨hPr, hother, hown⟩ := ih hnr (hP s a hs)
    have hne : ∀ b ∈ rest, F b ≠ F a := fun b hb h => hna (h ▸ List.mem_map_of_mem hb)
    refine ⟨hPr, fun g hg => ?_, fun b hb => ?_⟩
    · exact ((honly s a hs).others g (hg a List.mem_cons_self).symm).trans
        (hother g fun b hb => hg b (List.mem_cons_of_mem _ hb))
    · rcases List.mem_cons.mp hb with rfl | hb
      · exact hother _ hne
      · exact (hcongr s _ b hs (hP s a hs) ((honly s a hs).others _ (hne b hb))).trans (hown b hb)

end Sys2Proof.Machine
end

section
/-! The touch monitor, the guard timer and the moved set as actions on one fader (R72 to R82), and the position that a sense
frame gives a fader (R3). -/

namespace Sys2Proof.Machine

/-- A Present, fitted fader is not Absent. -/
theorem State.SoundAt.ne_absent_of_onBay {s : State} {f : FaderId} (hs : s.SoundAt f) (h : s.onBay f = true) :
    (s.fader f).motion ≠ .absent :=
  fun ha => by simp [hs.absent.mp ha] at h

/-- A held fader is not Absent. -/
theorem State.SoundAt.ne_absent_of_held {s : State} {f : FaderId} (hs : s.SoundAt f) (h : (s.fader f).held = true) :
    (s.fader f).motion ≠ .absent :=
  fun ha => by simp [Fader.held, (hs.gone ha).1] at h

/-- A held fader is served by nothing. -/
theorem State.SoundAt.free_of_held {s : State} {f : FaderId} (hs : s.SoundAt f) (h : (s.fader f).held = true) :
    (s.fader f).motion.free = true :=
  hs.servable.resolve_right fun hserv => by simp [hserv.untouched] at h

/-- A fader that the part has let go of is served by nothing. -/
theorem State.abandon_free {s : State} (hs : s.Sound) (f : FaderId) : ((s.abandon f).fader f).motion.free = true := by
  unfold State.abandon
  split
  · next hw =>
    obtain ⟨e, he, -⟩ := (hs f).waiting_of hw
    simp [State.leaveQueue, he, Calibration.motion_free]
  iterate 3
    · next hm =>
      obtain ⟨i, sl, hsl, -, rfl, -⟩ := (hs f).driven_of (by simp [hm])
      simp only [hsl]
      split
      · simp [State.endMove, MotionState.free]
      · simp [State.endHold, MotionState.free]
      · simp [State.endHoming, Calibration.motion_free]
  all_goals next hm => rw [hm]; rfl

theorem State.abandon_ne_absent {s : State} (hs : s.Sound) {f : FaderId} (h : (s.fader f).motion ≠ .absent) :
    ((s.abandon f).fader f).motion ≠ .absent := by
  have h1 := (State.abandon_acts hs f).sound f
  rw [Ne, h1.absent, State.onBay_congr (MotionFrame.abandon s f).bays, ← (hs f).absent]
  exact h

/-- A touch takes a fader out of the machine's hands (R77). -/
theorem State.enterTouched_acts {s : State} (hs : s.Sound) {f : FaderId} (h : (s.fader f).motion ≠ .absent) :
    Acts {f} s (s.enterTouched f) := by
  have h1 := State.abandon_acts hs f
  have hna := State.abandon_ne_absent hs h
  exact (h1.trans (State.modFader_acts_hold h1.sound rfl rfl rfl rfl rfl rfl (fun ha => absurd ha hna)
    (.inl (State.abandon_free hs f)) fun _ _ => rfl)).arbitrate

theorem State.endReleasing_acts {s : State} (hs : s.Sound) {f : FaderId} (h : (s.fader f).held = true) :
    Acts {f} s (s.endReleasing f) := by
  have h1 := State.modFader_acts_hold hs (f := f)
    (g := fun x => { x with touch := .untouched, touchRun := 0, guardTimer := 0, pendingTarget := none })
    rfl rfl rfl rfl rfl rfl (fun _ => rfl) (.inl ((hs f).free_of_held h)) (fun _ hp => absurd rfl hp)
  unfold State.endReleasing
  dsimp only
  split
  · next p _ _ => exact h1.trans (State.accept_acts h1.sound (p.request f))
  · exact h1.trans (State.targetFromPresent_acts h1.sound f)

theorem State.enterReleasing_acts {s : State} (hs : s.Sound) {f : FaderId} (h : (s.fader f).held = true) :
    Acts {f} s (s.enterReleasing f) := by
  have h1 := State.modFader_acts_hold hs (f := f)
    (g := fun x => { x with touch := .releasing, releaseRun := 0, guardTimer := s.setup.releaseGuard })
    rfl rfl rfl rfl rfl rfl (fun ha => absurd ha ((hs f).ne_absent_of_held h)) (.inl ((hs f).free_of_held h)) (fun _ _ => rfl)
  unfold State.enterReleasing
  dsimp only
  split
  · exact h1.trans (State.endReleasing_acts h1.sound (by simp [Fader.held]))
  · exact h1

/-- The touch monitor's step is an action on its fader, while that is not Absent (R72 to R75). -/
theorem State.touchFrame_acts {s : State} (hs : s.Sound) {f : FaderId} (h : (s.fader f).motion ≠ .absent) (bit : Bool) :
    Acts {f} s (s.touchFrame f bit) := by
  have hrun : ∀ g : Fader → Fader, (∀ x : Fader, x.Alike (g x)) → (∀ x, (g x).motion = x.motion) →
      (∀ x, (g x).perMille = x.perMille) → (∀ x, (g x).targetPos = x.targetPos) → Acts {f} s (s.modFader f g) :=
    fun g ha hm hp ht => State.modFader_acts hs (ha _) (hm _) (hp _) fun hpl => (ht _).trans_le hpl.inRange.2.2
  unfold State.touchFrame
  dsimp only
  split
  · split
    · split
      · exact State.enterTouched_acts hs h
      · exact hrun _ (fun _ => by constructor <;> rfl) (fun _ => rfl) (fun _ => rfl) fun _ => rfl
    · exact hrun _ (fun _ => by constructor <;> rfl) (fun _ => rfl) (fun _ => rfl) fun _ => rfl
  · next htouch =>
    have hheld : (s.fader f).held = true := by simp [Fader.held, htouch]
    split
    · exact hrun _ (fun _ => by constructor <;> rfl) (fun _ => rfl) (fun _ => rfl) fun _ => rfl
    · split
      · exact State.enterReleasing_acts hs hheld
      · exact hrun _ (fun _ => by constructor <;> rfl) (fun _ => rfl) (fun _ => rfl) fun _ => rfl
  · next htouch =>
    have hheld : (s.fader f).held = true := by simp [Fader.held, htouch]
    split
    · exact State.modFader_acts_hold hs rfl rfl rfl rfl rfl rfl (fun ha => absurd ha h) (.inl ((hs f).free_of_held hheld))
        (fun _ _ => rfl)
    · exact .refl hs

theorem State.judgeGuard_acts {s : State} (hs : s.Sound) (f : FaderId) : Acts {f} s (s.judgeGuard f) := by
  unfold State.judgeGuard
  dsimp only
  split
  · next h => exact State.endReleasing_acts hs (by simp [Fader.held, h.1])
  · exact .refl hs

theorem Fader.tick_touch (x : Fader) : x.tick.touch = x.touch := by
  unfold Fader.tick; split <;> rfl

theorem State.guardEvent_acts {s : State} (hs : s.Sound) (f : FaderId) : Acts {f} s (s.guardEvent f) := by
  unfold State.guardEvent
  dsimp only
  split
  · next h =>
    rw [Fader.tick_touch] at h
    exact State.endReleasing_acts hs (by simp [Fader.held, h.1])
  · exact .refl hs

theorem State.movedTest_acts {s : State} (hs : s.Sound) (f : FaderId) (follows : Bool) :
    Acts {f} s (s.movedTest f follows) := by
  unfold State.movedTest
  dsimp only
  split
  · exact State.modFader_acts hs (by constructor <;> rfl) rfl rfl fun hp => hp.inRange.2.2
  · split
    · exact State.modFader_acts hs (by constructor <;> rfl) rfl rfl fun hp => hp.inRange.2.2
    · exact .refl hs

/-! ### The position that a frame gives a fader -/

/-- A slot that follows a raw position keeps its ends; in Down and Up it has none to lie between (R61). -/
theorem Slot.followRaw_keeps (sl : Slot) (raw : Nat) :
    (sl.followRaw raw).fader = sl.fader ∧ (sl.followRaw raw).use = sl.use ∧
      (∀ c, (sl.followRaw raw).ends c = sl.ends c) ∧ ∀ c, sl.setpointOk c = true → (sl.followRaw raw).setpointOk c = true := by
  unfold Slot.followRaw
  split
  · next h => exact ⟨rfl, rfl, fun _ => rfl, fun _ _ => Slot.setpointOk_of_seeking h⟩
  · exact ⟨rfl, rfl, fun _ => rfl, fun _ h => h⟩

theorem State.followRaw_only (s : State) (f : FaderId) (raw : Nat) : OnlyAt f s (s.followRaw f raw) := by
  unfold State.followRaw
  split
  · exact .refl s
  · next h =>
    obtain ⟨hi, rfl⟩ := State.slotFor_some h
    exact .reSlot hi (Slot.followRaw_keeps _ raw).1

theorem State.takePosition_only (s : State) (f : FaderId) (raw : Nat) : OnlyAt f s (s.takePosition f raw) :=
  (OnlyAt.modFader ..).trans (State.followRaw_only ..)

/-- The record of a fader that takes a raw position (R3). -/
theorem State.takePosition_fader (s : State) (f : FaderId) (raw : Nat) :
    (s.takePosition f raw).fader f = { s.fader f with
      raw := raw, perMille := perMilleOfRaw (s.calInForce f).1 (s.calInForce f).2 raw, stale := false } := by
  have : ∀ t : State, (t.followRaw f raw).fader f = t.fader f := fun t => by unfold State.followRaw; split <;> rfl
  rw [State.takePosition, this, State.modFader_fader_self]

theorem State.takePosition_entriesOf (s : State) (f : FaderId) (raw : Nat) (g : FaderId) :
    (s.takePosition f raw).entriesOf g = s.entriesOf g := by
  unfold State.takePosition State.followRaw; dsimp only; split <;> rfl

/-- A fader that the invariants hold of has no slot or one. -/
theorem State.Served.slots_cases {s : State} {f : FaderId} (hs : s.Served f) :
    s.slotsOf f = noSlot ∨ ∃ i sl, s.slotsOf f = onlySlot i sl := by
  cases hs with
  | free _ _ n => exact .inl n
  | waits _ _ _ n => exact .inl n
  | driven i sl _ _ n => exact .inr ⟨i, sl, n⟩

theorem State.followRaw_slotsOf {s : State} {f : FaderId} (h : s.slotsOf f = noSlot ∨ ∃ i sl, s.slotsOf f = onlySlot i sl)
    (raw : Nat) : (s.followRaw f raw).slotsOf f = fun i => (s.slotsOf f i).map fun sl => sl.followRaw raw := by
  rcases h with n | ⟨i, sl, n⟩
  · simp only [State.followRaw, State.slotFor_eq_none n]
    rw [n]; rfl
  · obtain ⟨-, rfl⟩ := State.slot_of_onlySlot n
    simp only [State.followRaw, State.slotFor_eq_some n]
    rw [State.slotsOf_reSlot n (Slot.followRaw_keeps sl raw).1, n, map_onlySlot fun _ sl => sl.followRaw raw]

theorem State.takePosition_slotsOf {s : State} {f : FaderId} (hs : s.Served f) (raw : Nat) :
    (s.takePosition f raw).slotsOf f = fun i => (s.slotsOf f i).map fun sl => sl.followRaw raw :=
  State.followRaw_slotsOf (s := s.modFader f _) hs.slots_cases raw

/-- A raw position leaves the calibration in force as it is, and the per-mille follows it (R3, R58). -/
theorem State.takePosition_tracked {s : State} {f : FaderId} (hs : s.SoundAt f) (raw : Nat) :
    (s.takePosition f raw).TrackedAt f := by
  have hx := s.takePosition_fader f raw
  have hn := s.takePosition_slotsOf hs.served raw
  have hcal : (s.takePosition f raw).calInForce f = s.calInForce f := by
    have hrec : s.slotsOf f = noSlot → (s.takePosition f raw).calInForce f = s.calInForce f := fun n => by
      rw [State.calInForce_of_noSlot n, State.calInForce_of_noSlot (hn.trans (by rw [n]; rfl)), hx]
    cases hs.served with
    | free _ _ n => exact hrec n
    | waits _ _ _ n => exact hrec n
    | driven i sl _ _ n =>
      rw [State.calInForce_of_onlySlot n,
        State.calInForce_of_onlySlot (hn.trans (by rw [n, map_onlySlot fun _ sl => sl.followRaw raw])), hx,
        (Slot.followRaw_keeps sl raw).2.2.1]
  unfold State.TrackedAt
  rw [hcal, hx]

/-- A raw position of 12 bits leaves a fader that is not Absent sound, placed and tracked (R3, R58). -/
theorem State.takePosition_kept {s : State} {f : FaderId} (hs : s.SoundAt f) (h : (s.fader f).motion ≠ .absent) {raw : Nat}
    (hraw : raw ≤ 4095) : s.Kept (s.takePosition f raw) f := by
  have hx := s.takePosition_fader f raw
  have he := s.takePosition_entriesOf f raw f
  have hn := s.takePosition_slotsOf hs.served raw
  have hframe := MotionFrame.takePosition s f raw
  have hnone : s.slotsOf f = noSlot → (s.takePosition f raw).slotsOf f = noSlot := fun n => by rw [hn, n]; rfl
  have honly : ∀ {i sl}, s.slotsOf f = onlySlot i sl →
      (s.takePosition f raw).slotsOf f = onlySlot i (sl.followRaw raw) := fun n => by rw [hn, n, map_onlySlot fun _ sl => sl.followRaw raw]
  refine ⟨⟨?_, ?_, ?_, ?_⟩, fun hpl => ⟨hframe.law ▸ hpl.taper, hframe.setup ▸ hpl.span, ?_, ?_, ?_⟩,
    fun _ => State.takePosition_tracked hs raw, fun hpe => ?_⟩
  · cases hs.served with
    | free m e n => exact .free (by rw [hx]; exact m) (he.trans e) (hnone n)
    | waits d m e n => exact .waits d (by rw [hx]; exact m) (he.trans e) (hnone n)
    | driven i sl m e n =>
      exact .driven i (sl.followRaw raw) (by rw [hx, (Slot.followRaw_keeps sl raw).2.1]; exact m) (he.trans e) (honly n)
  · rw [hx, State.onBay_congr hframe.bays]; exact hs.absent
  · rw [hx]; exact fun ha => absurd ha h
  · rw [hx]
    refine hs.servable.imp_right fun hserv => ⟨?_, ?_, ?_⟩
    · rw [hx]; exact hserv.untouched
    · rw [hx]; exact hserv.enabled
    · rw [State.supplyFaulted_congr hframe.bays]; exact hserv.supplied
  · rw [hx]; exact hpl.cal
  · intro i sl hsl
    rw [hn] at hsl
    obtain ⟨sl', h1, rfl⟩ := Option.map_eq_some_iff.mp hsl
    rw [hx]
    exact (Slot.followRaw_keeps sl' raw).2.2.2 _ (hpl.slots i sl' h1)
  · rw [hx]; exact ⟨hraw, perMilleOfRaw_le .., hpl.inRange.2.2⟩
  · unfold State.PendedAt
    rw [hx]; exact hpe

theorem State.takePosition_keeps {s : State} (hs : s.Sound) {f : FaderId} (h : (s.fader f).motion ≠ .absent) {raw : Nat}
    (hraw : raw ≤ 4095) : s.Keeps (s.takePosition f raw) := by
  intro g
  by_cases hg : g = f
  · subst hg; exact State.takePosition_kept (hs g) h hraw
  · have hframe := MotionFrame.takePosition s f raw
    exact ((s.takePosition_only f raw).others g hg).kept hframe.bays hframe.law hframe.setup (hs g)

end Sys2Proof.Machine
end

section
/-! What a bay does to its faders at once: the fitted step, the supply report, a join and a loss (R133, R135 to R139). Each
goes through the positions of the bay, and does to each fader its own part. -/

namespace Sys2Proof.Machine

/-! ### The faders of a bay -/

@[simp] theorem bayOf_faderAt (b : BayId) (p : Position) : bayOf (faderAt b p) = b := by
  apply Fin.ext; simp [bayOf, faderAt]; omega

@[simp] theorem positionOf_faderAt (b : BayId) (p : Position) : positionOf (faderAt b p) = p := by
  apply Fin.ext; simp [positionOf, faderAt]

theorem faderAt_bayOf (f : FaderId) : faderAt (bayOf f) (positionOf f) = f := by
  apply Fin.ext; simp [bayOf, positionOf, faderAt]; omega

theorem faderAt_inj {b : BayId} {p q : Position} (h : faderAt b p = faderAt b q) : p = q := by
  simpa using congrArg positionOf h

theorem nodup_faderAt (b : BayId) : ((List.finRange 8).map (faderAt b)).Nodup :=
  (List.nodup_finRange 8).map fun _ _ => faderAt_inj

theorem State.onBay_faderAt (s : State) (b : BayId) (p : Position) :
    s.onBay (faderAt b p) = ((s.bay b).state == .present && (s.bay b).fits p) := by
  simp [State.onBay]

/-! ### A fader whose service ends -/

theorem State.slotFor_eq (s : State) (f : FaderId) :
    s.slotFor f = (List.finRange 16).findSome? fun i => (s.slotsOf f i).map (Prod.mk i) := by
  unfold State.slotFor State.slotsOf
  congr 1
  funext i
  cases s.slot i with
  | none => rfl
  | some sl => by_cases h : sl.fader = f <;> simp [h, Option.filter_some]

theorem State.SameAt.slotFor {s t : State} {f : FaderId} (h : s.SameAt t f) : t.slotFor f = s.slotFor f := by
  rw [t.slotFor_eq, s.slotFor_eq, h.slots]

theorem State.SameAt.unparkedPerMille {s t : State} {f : FaderId} (h : s.SameAt t f) :
    t.unparkedPerMille f = s.unparkedPerMille f := by
  simp only [State.unparkedPerMille, h.slotFor, h.fader]

/-- What the end of a service leaves of its fader, under the ownership invariant. -/
theorem State.endService_at {s : State} (hs : s.owned) (f : FaderId) (o : EndOutcome) :
    (s.endService f o).fader f = (s.fader f).afterEnd (s.unparkedPerMille f) ∧ (s.endService f o).entriesOf f = [] ∧
      (s.endService f o).slotsOf f = noSlot := by
  rw [State.endService_eq hs]
  refine ⟨by simp, by simp [State.entriesOf], funext fun i => ?_⟩
  unfold State.slotsOf
  rw [State.serviceEnded_slot]
  cases s.slot i with
  | none => rfl
  | some sl => by_cases h : sl.fader = f <;> simp [h, noSlot, Option.filter_some]

theorem State.leaveQueue_only (s : State) (f : FaderId) (o : EndOutcome) : OnlyAt f s (s.leaveQueue f o) := by
  unfold State.leaveQueue
  split
  · exact .refl s
  · exact ((OnlyAt.complete ..).trans (.removeEntry ..)).trans (.modFader ..)

theorem State.endUse_only {s : State} {i : SlotId} {sl : Slot} (hi : s.slot i = some sl) (o : EndOutcome) :
    OnlyAt sl.fader s (s.endUse i sl o) := by
  unfold State.endUse State.endHoldWith State.endHold
  split
  · exact ((OnlyAt.complete s ..).trans (.freeSlot (by simpa using hi))).trans (.modFader ..)
  · exact ((OnlyAt.complete s ..).trans (.freeSlot (by simpa using hi))).trans (.modFader ..)
  · exact ((State.dropHoming_only hi).trans (.complete ..)).trans (.modFader ..)

theorem State.endService_only (s : State) (f : FaderId) (o : EndOutcome) : OnlyAt f s (s.endService f o) := by
  unfold State.endService
  split
  · exact s.leaveQueue_only f o
  iterate 3
    · split
      · exact .refl s
      · next h =>
        obtain ⟨hi, rfl⟩ := State.slotFor_some h
        exact State.endUse_only hi o
  all_goals exact .refl s

theorem State.owned_endService {s : State} (hs : s.owned) (f : FaderId) (o : EndOutcome) : (s.endService f o).owned :=
  State.endService_eq hs f o ▸ State.owned_serviceEnded hs f o

theorem State.endService_sameAt {s t : State} (hs : s.owned) (ht : t.owned) {f : FaderId} (h : s.SameAt t f)
    (o : EndOutcome) : (s.endService f o).SameAt (t.endService f o) f := by
  obtain ⟨h1, h2, h3⟩ := State.endService_at hs f o
  obtain ⟨k1, k2, k3⟩ := State.endService_at ht f o
  exact ⟨by rw [h1, k1, h.fader, h.unparkedPerMille], h2 ▸ k2, h3 ▸ k3⟩

theorem State.endService_free {s : State} (hs : s.owned) (f : FaderId) (o : EndOutcome) :
    ((s.endService f o).fader f).motion.free = true :=
  (State.endService_at hs f o).1 ▸ Fader.afterEnd_free ..

/-! ### A fader leaves or enters -/

theorem State.SameAt.modFader {s t : State} {f : FaderId} (h : s.SameAt t f) (g : Fader → Fader) :
    (s.modFader f g).SameAt (t.modFader f g) f :=
  ⟨by simp [h.fader], h.entries, h.slots⟩

theorem State.loseFader_only (s : State) (f : FaderId) : OnlyAt f s (s.loseFader f) :=
  (s.endService_only f .bayLost).trans (.modFader ..)

theorem State.enterFader_only (s : State) (f : FaderId) : OnlyAt f s (s.enterFader f) :=
  .modFader ..

theorem State.owned_loseFader {s : State} (hs : s.owned) (f : FaderId) : (s.loseFader f).owned :=
  State.owned_setFader (State.owned_endService hs f .bayLost) (State.endService_free hs f .bayLost) rfl

theorem State.owned_enterFader {s : State} (hs : s.owned) {f : FaderId} (h : (s.fader f).motion.free = true) :
    (s.enterFader f).owned :=
  State.owned_setFader hs h (Calibration.motion_free _)

theorem State.loseFader_sameAt {s t : State} (hs : s.owned) (ht : t.owned) {f : FaderId} (h : s.SameAt t f) :
    (s.loseFader f).SameAt (t.loseFader f) f :=
  (State.endService_sameAt hs ht h .bayLost).modFader _

/-- A fader that nothing serves leaves: it is sound on a position that is not Present and fitted (R85, R136, R137). -/
theorem State.kept_leave {s t : State} {f : FaderId} (he : s.entriesOf f = [])
    (hn : s.slotsOf f = noSlot) (h : (s.modFader f Fader.leave).SameAt t f) (hset : s.SetupKept t)
    (hb : t.onBay f = false) : s.Kept t f := by
  have hx : t.fader f = (s.fader f).leave := h.fader.trans (s.modFader_fader_self f _)
  have hn' : t.slotsOf f = noSlot := h.slots.trans hn
  refine ⟨⟨.free (by rw [hx]; rfl) (h.entries.trans he) hn', by simp [hx, Fader.leave, hb], by simp [hx, Fader.leave],
    .inl (by rw [hx]; rfl)⟩, fun hpl => ⟨hset.taper hpl.taper, hset.span hpl.span, ?_, ?_, ?_⟩,
    fun htr => ?_, fun _ => by simp [State.PendedAt, hx, Fader.leave]⟩
  · rw [hx]; exact hpl.cal
  · simp [hn', noSlot]
  · rw [hx]; exact hpl.inRange
  · unfold State.TrackedAt at htr ⊢
    rw [State.calInForce_of_noSlot hn] at htr
    rw [State.calInForce_of_noSlot hn', hx]
    exact htr

/-- An Absent fader enters: it is sound on a Present, fitted position (R135, R137). -/
theorem State.SoundAt.kept_enter {s t : State} {f : FaderId} (hs : s.SoundAt f) (ha : (s.fader f).motion = .absent)
    (h : (s.enterFader f).SameAt t f) (hset : s.SetupKept t) (hb : t.onBay f = true) : s.Kept t f := by
  obtain ⟨he, hn⟩ := hs.free_of (by rw [ha]; rfl)
  have hx : t.fader f = { s.fader f with motion := (s.fader f).cal.motion } := h.fader.trans (s.modFader_fader_self f _)
  have hn' : t.slotsOf f = noSlot := h.slots.trans hn
  have hfree : (t.fader f).motion.free = true := by rw [hx]; exact Calibration.motion_free _
  refine ⟨⟨.free hfree (h.entries.trans he) hn', by simp [hx, hb], by simp [hx], .inl hfree⟩,
    fun hpl => ⟨hset.taper hpl.taper, hset.span hpl.span, ?_, ?_, ?_⟩, fun htr => ?_,
    fun hpe => by unfold State.PendedAt; rw [hx]; exact hpe⟩
  · rw [hx]; exact hpl.cal
  · simp [hn', noSlot]
  · rw [hx]; exact hpl.inRange
  · unfold State.TrackedAt at htr ⊢
    rw [State.calInForce_of_noSlot hn] at htr
    rw [State.calInForce_of_noSlot hn', hx]
    exact htr

/-- A fader that the part loses is sound on a position that is not Present and fitted. -/
theorem State.Sound.kept_lose {s t : State} (hs : s.Sound) {f : FaderId} (h : (s.loseFader f).SameAt t f)
    (hset : s.SetupKept t) (hb : t.onBay f = false) : s.Kept t f := by
  obtain ⟨-, he, hn⟩ := State.endService_at hs.owned f .bayLost
  have h1 := (State.endService_acts hs f .bayLost).kept f
  have hframe := MotionFrame.endService s f .bayLost
  exact h1.trans (State.kept_leave he hn h ⟨fun k => hset.taper (hframe.law ▸ k), fun k => hset.span (hframe.setup ▸ k)⟩ hb)

end Sys2Proof.Machine
end

section
/-! A bay's steps keep the invariants: the fitted step, the supply report, a join, a loss, and the whole good frame. -/

namespace Sys2Proof.Machine

theorem State.onBay_of_bay {s t : State} {f : FaderId} (h : t.bay (bayOf f) = s.bay (bayOf f)) : t.onBay f = s.onBay f := by
  simp only [State.onBay, h]

theorem State.BayKept.of_bay {s t : State} {f : FaderId} (h : t.bay (bayOf f) = s.bay (bayOf f)) : s.BayKept t f :=
  ⟨State.onBay_of_bay h, .inr (by simp only [State.supplyFaulted, h])⟩

theorem State.modBay_bay_self (s : State) (b : BayId) (g : Bay → Bay) : (s.modBay b g).bay b = g (s.bay b) := by
  simp [State.modBay_bay]

theorem State.modBay_bay_ne (s : State) {b c : BayId} (g : Bay → Bay) (h : c ≠ b) : (s.modBay b g).bay c = s.bay c := by
  simp [State.modBay_bay, h.symm]

/-- A bay record changes in what the invariants do not read of it. -/
theorem State.modBay_keeps {s : State} (hs : s.Sound) (b : BayId) {g : Bay → Bay}
    (hst : (g (s.bay b)).state = .present ↔ (s.bay b).state = .present) (hfit : (g (s.bay b)).fitted = (s.bay b).fitted)
    (hsup : (g (s.bay b)).supplyFault = (s.bay b).supplyFault) : s.Keeps (s.modBay b g) := by
  intro f
  refine State.SameAt.kept_of_bay (t := s.modBay b g) ⟨rfl, rfl, rfl⟩ (hs f) (.of_eq rfl rfl) ?_
  by_cases hf : bayOf f = b
  · subst hf
    have hbeq : ((g (s.bay (bayOf f))).state == .present) = ((s.bay (bayOf f)).state == .present) := by
      rw [Bool.eq_iff_iff]; simpa using hst
    exact ⟨by simp only [State.onBay, State.modBay_bay_self, Bay.fits, hbeq, hfit],
      .inr (by simp only [State.supplyFaulted, State.modBay_bay_self, hsup])⟩
  · exact .of_bay (s.modBay_bay_ne g hf)

/-- What a fold over the positions of a bay leaves: each fader of the bay has its own step done to it, each other none. -/
structure FoldedAt (b : BayId) (act : State → Position → State) (s t : State) : Prop where
  frame : MotionFrame s t
  others : ∀ f, bayOf f ≠ b → s.SameAt t f
  own : ∀ p, (act s p).SameAt t (faderAt b p)

theorem foldedAt_foldl {P : State → Prop} {b : BayId} {act : State → Position → State} {s : State}
    (hframe : ∀ t p, MotionFrame t (act t p)) (hP : ∀ t p, P t → P (act t p))
    (honly : ∀ t p, OnlyAt (faderAt b p) t (act t p))
    (hcongr : ∀ s t p, P s → P t → s.SameAt t (faderAt b p) → (act s p).SameAt (act t p) (faderAt b p)) (hs : P s) :
    P ((List.finRange 8).foldl act s) ∧ FoldedAt b act s ((List.finRange 8).foldl act s) := by
  obtain ⟨h1, h2, h3⟩ := foldl_onlyAt (nodup_faderAt b) hP (fun t p _ => honly t p) hcongr hs
  exact ⟨h1, .foldl act hframe _ s, fun f hf => h2 f fun p _ h => hf (h ▸ bayOf_faderAt b p),
    fun p => h3 p (List.mem_finRange p)⟩

/-- What a fold over the fitted positions of a bay leaves. -/
theorem foldedAt_forFitted {P : State → Prop} {b : BayId} {act : State → Position → State} {s : State}
    (hframe : ∀ t p, MotionFrame t (act t p)) (hP : ∀ t p, P t → P (act t p))
    (honly : ∀ t p, OnlyAt (faderAt b p) t (act t p))
    (hcongr : ∀ s t p, P s → P t → s.SameAt t (faderAt b p) → (act s p).SameAt (act t p) (faderAt b p)) (hs : P s) :
    P (s.forFitted b act) ∧ FoldedAt b (fun t p => if (s.bay b).fits p then act t p else t) s (s.forFitted b act) := by
  refine foldedAt_foldl (fun t p => ?_) (fun t p ht => ?_) (fun t p => ?_) (fun s' t p hs' ht h => ?_) hs
  · split
    · exact hframe t p
    · exact .refl t
  · split
    · exact hP t p ht
    · exact ht
  · split
    · exact honly t p
    · exact .refl t
  · split
    · exact hcongr s' t p hs' ht h
    · exact h

/-- Who has hold of each fader is read of the fader records, the entries and the slots alone. -/
theorem State.owned.of_eq {s t : State} (hs : s.owned) (hf : t.faders = s.faders)
    (hq : t.queue.entries = s.queue.entries) (hn : t.table.slots = s.table.slots) : t.owned := by
  have hfader : t.fader = s.fader := by funext f; simp only [State.fader, hf]
  have hslot : t.slot = s.slot := by funext i; simp only [State.slot, hn]
  constructor
  · rw [hq]; exact hs.oneEntry
  · rw [hq, hfader]; exact hs.entryWaits
  · rw [hq, hfader]; exact hs.waitingHasEntry
  · rw [hslot, hfader]; exact hs.slotMoves
  · rw [hslot]; exact hs.oneSlot
  · rw [hslot, hfader]; exact hs.movingHasSlot

/-! ### The fitted step -/

/-- What the fitted step needs of a state: its faders are owned, and one of a position that was not fitted is served by
nothing. -/
structure State.FitReady (s : State) (b : BayId) (was : BitVec 8) : Prop where
  owned : s.owned
  free : ∀ p : Position, was.getLsbD p.val = false → (s.fader (faderAt b p)).motion.free = true

theorem State.fitPosition_only (s : State) (b : BayId) (was now : BitVec 8) (p : Position) :
    OnlyAt (faderAt b p) s (s.fitPosition b was now p) := by
  unfold State.fitPosition
  split
  · exact s.loseFader_only _
  · exact s.enterFader_only _
  · exact .refl s

theorem State.FitReady.fitPosition {s : State} {b : BayId} {was : BitVec 8} (h : s.FitReady b was) (now : BitVec 8)
    (p : Position) : (s.fitPosition b was now p).FitReady b was := by
  refine ⟨?_, fun q hq => ?_⟩
  · unfold State.fitPosition
    split
    · exact State.owned_loseFader h.owned _
    · next hw _ => exact State.owned_enterFader h.owned (h.free p hw)
    · exact h.owned
  · by_cases hqp : q = p
    · subst hqp
      unfold State.fitPosition
      split
      · next hw _ => exact absurd (hq.symm.trans hw) (by decide)
      · rw [State.enterFader, State.modFader_fader_self]; exact Calibration.motion_free _
      · exact h.free q hq
    · rw [((s.fitPosition_only b was now p).others _ fun e => hqp (faderAt_inj e)).fader]
      exact h.free q hq

theorem State.fitPosition_frame (s : State) (b : BayId) (was now : BitVec 8) (p : Position) :
    MotionFrame s (s.fitPosition b was now p) := by
  unfold State.fitPosition
  split
  · exact .loseFader ..
  · exact .enterFader ..
  · exact .refl s

theorem State.Sound.fitReady {s : State} (hs : s.Sound) (b : BayId) : s.FitReady b (s.bay b).fitted where
  owned := hs.owned
  free p hp := by
    have : s.onBay (faderAt b p) = false := by rw [s.onBay_faderAt, Bay.fits, hp, Bool.and_false]
    rw [(hs (faderAt b p)).absent.mpr this]
    rfl

/-- The faders of a bay after the fitted step, each by its bits before and now (R137). -/
theorem State.fitPositions_foldedAt {s : State} (hs : s.Sound) (b : BayId) (now : BitVec 8) :
    FoldedAt b (fun t p => t.fitPosition b (s.bay b).fitted now p) s
      ((List.finRange 8).foldl (fun t p => t.fitPosition b (s.bay b).fitted now p) s) := by
  refine (foldedAt_foldl (P := fun t => t.FitReady b (s.bay b).fitted) (fun t p => t.fitPosition_frame b _ now p)
    (fun t p ht => ht.fitPosition now p) (fun t p => t.fitPosition_only b _ now p) (fun t u p ht hu h => ?_)
    (hs.fitReady b)).2
  unfold State.fitPosition
  split
  · exact State.loseFader_sameAt ht.owned hu.owned h
  · exact h.modFader _
  · exact h

/-- The fitted step but for the arbiter: faders leave and enter by their bits, and the mask follows (R137). -/
def State.refit (s : State) (b : BayId) (bytes : List Byte) : State :=
  ((List.finRange 8).foldl (fun t p => t.fitPosition b (s.bay b).fitted (senseFitted bytes) p) s).modBay b fun x =>
    { x with fitted := senseFitted bytes }

theorem State.refit_keeps {s : State} (hs : s.Sound) {b : BayId} (hb : (s.bay b).state = .present)
    (bytes : List Byte) : s.Keeps (s.refit b bytes) := by
  have hfold := State.fitPositions_foldedAt hs b (senseFitted bytes)
  unfold State.refit
  set u := (List.finRange 8).foldl (fun t p => t.fitPosition b (s.bay b).fitted (senseFitted bytes) p) s
  have hbay : u.bay b = s.bay b := by simp only [State.bay, hfold.frame.bays]
  set v := u.modBay b fun x => { x with fitted := senseFitted bytes } with hv
  have hset : s.SetupKept v := .of_eq hfold.frame.law hfold.frame.setup
  intro f
  by_cases hf : bayOf f = b
  · subst hf
    have hown := (hfold.own (positionOf f)).trans (u := v) ⟨rfl, rfl, rfl⟩
    rw [faderAt_bayOf] at hown
    have hold : s.onBay f = (s.bay (bayOf f)).fitted.getLsbD (positionOf f).val := by
      simp [State.onBay, hb, Bay.fits]
    have hnew : v.onBay f = (senseFitted bytes).getLsbD (positionOf f).val := by
      simp [State.onBay, hv, State.modBay_bay_self, hbay, hb, Bay.fits]
    unfold State.fitPosition at hown
    rw [faderAt_bayOf] at hown
    split at hown
    · next hw hn => exact hs.kept_lose hown hset (hnew.trans hn)
    · next hw hn => exact (hs f).kept_enter ((hs f).absent.mpr (hold.trans hw)) hown hset (hnew.trans hn)
    · next h1 h2 =>
      refine State.SameAt.kept_of_bay hown (hs f) hset ⟨?_, .inr ?_⟩
      · rw [hnew, hold]
        cases hw : (s.bay (bayOf f)).fitted.getLsbD (positionOf f).val <;>
          cases hn : (senseFitted bytes).getLsbD (positionOf f).val <;> simp_all
      · simp only [State.supplyFaulted, hv, State.modBay_bay_self, hbay]
  · exact State.SameAt.kept_of_bay ((hfold.others f hf).trans (u := v) ⟨rfl, rfl, rfl⟩) (hs f) hset
      (.of_bay ((u.modBay_bay_ne _ hf).trans (by simp only [State.bay, hfold.frame.bays])))

/-- The fitted step loses and enters faders by their bits, and the mask follows (R137). -/
theorem State.takeFitted_keeps {s : State} (hs : s.Sound) {b : BayId} (hb : (s.bay b).state = .present)
    (bytes : List Byte) : s.Keeps (s.takeFitted b bytes) :=
  have hkeeps := State.refit_keeps hs hb bytes
  hkeeps.trans (State.arbitrate_acts hkeeps.sound).keeps

/-! ### The supply report -/

/-- The service of every fitted fader of a bay ends (R138). -/
theorem State.endServices_foldedAt {s : State} (hs : s.owned) (b : BayId) (o : EndOutcome) :
    FoldedAt b (fun t p => if (s.bay b).fits p then t.endService (faderAt b p) o else t) s
      (s.forFitted b fun u p => u.endService (faderAt b p) o) :=
  (foldedAt_forFitted (P := State.owned) (fun _ _ => .endService ..) (fun _ _ ht => State.owned_endService ht _ o)
    (fun t _ => t.endService_only _ o) (fun _ _ _ hs ht h => State.endService_sameAt hs ht h o) hs).2

/-- A bay whose supply newly fails, but for the arbiter: the condition is set and the bay's faders are served no more (R138). -/
def State.failSupply (s : State) (b : BayId) : State :=
  ((s.modBay b fun x => { x with supplyFault := true, supplyGood := false }).raise .supplyFault).forFitted b fun u p =>
    u.endService (faderAt b p) .supplyFault

/-- The supply step by its cases (R138, R139). -/
theorem State.takeSupply_eq (s : State) (b : BayId) (bytes : List Byte) :
    s.takeSupply b bytes =
      if senseSupplyGood bytes then s.modBay b fun x => { x with supplyFault := false, supplyGood := true }
      else if (s.bay b).supplyFault then s.modBay b fun x => { x with supplyFault := true, supplyGood := false }
      else (s.failSupply b).arbitrate := rfl

theorem State.failSupply_keeps {s : State} (hs : s.Sound) (b : BayId) : s.Keeps (s.failSupply b) := by
  unfold State.failSupply
  set t := (s.modBay b fun x => { x with supplyFault := true, supplyGood := false }).raise .supplyFault with ht
  have hsame : ∀ f, s.SameAt t f := fun f => ⟨rfl, rfl, rfl⟩
  have hown : t.owned := hs.owned.of_eq rfl rfl rfl
  have hfold := State.endServices_foldedAt hown b .supplyFault
  set u := t.forFitted b fun u p => u.endService (faderAt b p) .supplyFault
  have hset : s.SetupKept u := .of_eq (hfold.frame.law.trans rfl) (hfold.frame.setup.trans rfl)
  have htb : t.bay b = { s.bay b with supplyFault := true, supplyGood := false } :=
    (State.raise_bay ..).trans (s.modBay_bay_self b _)
  have hub : u.bay b = { s.bay b with supplyFault := true, supplyGood := false } := by
    rw [← htb]; simp only [State.bay, hfold.frame.bays]
  intro f
  by_cases hf : bayOf f = b
  · subst hf
    have hat := hfold.own (positionOf f)
    rw [faderAt_bayOf, htb] at hat
    have honb : u.onBay f = s.onBay f := by simp only [State.onBay, hub, Bay.fits]
    split at hat
    · have h1 := (State.endService_acts hs f .supplyFault).kept f
      have hframe := MotionFrame.endService s f .supplyFault
      refine h1.trans (State.SameAt.kept_of_bay ((State.endService_sameAt hs.owned hown (hsame f) _).trans hat) h1.sound
        ⟨fun k => hset.taper (hframe.law ▸ k), fun k => hset.span (hframe.setup ▸ k)⟩
        ⟨honb.trans (State.onBay_congr hframe.bays f).symm, .inl (State.endService_free hs.owned f _)⟩)
    · next hfit =>
      have hoff : s.onBay f = false := by
        simp only [State.onBay, Bool.and_eq_false_iff]
        exact .inr (by simpa [Bay.fits] using hfit)
      exact State.SameAt.kept_of_bay ((hsame f).trans hat) (hs f) hset
        ⟨honb, .inl (by rw [(hs f).absent.mpr hoff]; rfl)⟩
  · refine State.SameAt.kept_of_bay ((hsame f).trans (hfold.others f hf)) (hs f) hset (.of_bay ?_)
    calc u.bay (bayOf f) = t.bay (bayOf f) := by simp only [State.bay, hfold.frame.bays]
      _ = s.bay (bayOf f) := (State.raise_bay ..).trans (s.modBay_bay_ne _ hf)

/-- A bay's report that is not good leaves its faders free, and sets the supply fault condition (R138). -/
theorem State.takeSupply_keeps {s : State} (hs : s.Sound) (b : BayId) (bytes : List Byte) :
    s.Keeps (s.takeSupply b bytes) := by
  rw [State.takeSupply_eq]
  split
  · intro f
    refine State.SameAt.kept_of_bay (t := s.modBay b _) ⟨rfl, rfl, rfl⟩ (hs f) (.of_eq rfl rfl) ?_
    by_cases hf : bayOf f = b
    · subst hf
      refine ⟨by simp [State.onBay, State.modBay_bay_self, Bay.fits], (hs f).servable.imp_right fun hserv => ?_⟩
      rw [hserv.supplied]
      simp [State.supplyFaulted, State.modBay_bay_self]
    · exact .of_bay (s.modBay_bay_ne _ hf)
  · split
    · next hfault => exact State.modBay_keeps hs b Iff.rfl rfl hfault.symm
    · have hkeeps := State.failSupply_keeps hs b
      exact hkeeps.trans (State.arbitrate_acts hkeeps.sound).keeps

end Sys2Proof.Machine
end

section
/-! A bay is lost or joins (R133, R135, R136), its frames are taken whole (R134), and its windows close (R131, R132), all keeping
the invariants. -/

namespace Sys2Proof.Machine

/-! ### Loss and join -/

theorem State.loseFaders_foldedAt {s : State} (hs : s.owned) (b : BayId) :
    FoldedAt b (fun t p => if (s.bay b).fits p then t.loseFader (faderAt b p) else t) s
      (s.forFitted b fun t p => t.loseFader (faderAt b p)) :=
  (foldedAt_forFitted (P := State.owned) (fun _ _ => .loseFader ..) (fun _ _ ht => State.owned_loseFader ht _)
    (fun t _ => t.loseFader_only _) (fun _ _ _ hs ht h => State.loseFader_sameAt hs ht h) hs).2

theorem State.loseBay_keeps {s : State} (hs : s.Sound) (b : BayId) : s.Keeps (s.loseBay b) := by
  have hfold := State.loseFaders_foldedAt hs.owned b
  unfold State.loseBay
  set u := s.forFitted b fun t p => t.loseFader (faderAt b p)
  set v := (u.modBay b fun x => { x with state := .lost, missRun := 0, supplyFault := false }).raise .bayLost with hv
  have hset : s.SetupKept v := .of_eq hfold.frame.law hfold.frame.setup
  have hkeeps : s.Keeps v := by
    intro f
    by_cases hf : bayOf f = b
    · subst hf
      have hown := (hfold.own (positionOf f)).trans (u := v) ⟨rfl, rfl, rfl⟩
      rw [faderAt_bayOf] at hown
      have hnew : v.onBay f = false := by simp [State.onBay, hv, State.modBay_bay_self]
      split at hown
      · exact hs.kept_lose hown hset hnew
      · next hfit =>
        have hold : s.onBay f = false := by simp [State.onBay, hfit]
        exact State.SameAt.kept_of_bay hown (hs f) hset
          ⟨hnew.trans hold.symm, .inl (by rw [(hs f).absent.mpr hold]; rfl)⟩
    · refine State.SameAt.kept_of_bay ((hfold.others f hf).trans (u := v) ⟨rfl, rfl, rfl⟩) (hs f) hset (.of_bay ?_)
      rw [hv, State.raise_bay, State.modBay_bay_ne _ _ hf]
      simp only [State.bay, hfold.frame.bays]
  exact hkeeps.trans (State.arbitrate_acts hkeeps.sound).keeps

theorem State.enterFaders_foldedAt (s : State) (b : BayId) :
    FoldedAt b (fun t p => if (s.bay b).fits p then t.enterFader (faderAt b p) else t) s
      (s.forFitted b fun t p => t.enterFader (faderAt b p)) :=
  (foldedAt_forFitted (P := fun _ => True) (fun _ _ => .enterFader ..) (fun _ _ _ => trivial)
    (fun t _ => t.enterFader_only _) (fun _ _ _ _ _ h => h.modFader _) trivial).2

/-- A bay that was not Present joins with the faders of its frame (R133, R135). -/
theorem State.joinBay_keeps {s : State} (hs : s.Sound) {b : BayId} (hb : (s.bay b).state ≠ .present) (bytes : List Byte) :
    s.Keeps (s.joinBay b bytes) := by
  unfold State.joinBay
  dsimp only
  set t := s.modBay b fun x =>
    { x with state := .present, joinRun := 0, missRun := 0, supplyFault := false, fitted := senseFitted bytes } with ht
  have hfold := t.enterFaders_foldedAt b
  set v := (t.forFitted b fun u p => u.enterFader (faderAt b p)).raise .bayJoined with hv
  have hset : s.SetupKept v := .of_eq (hfold.frame.law.trans rfl) (hfold.frame.setup.trans rfl)
  have hsame : ∀ f, s.SameAt t f := fun f => ⟨rfl, rfl, rfl⟩
  have hvb : ∀ c, v.bay c = t.bay c := fun c => by rw [hv, State.raise_bay]; simp only [State.bay, hfold.frame.bays]
  intro f
  by_cases hf : bayOf f = b
  · subst hf
    have habs : (s.fader f).motion = .absent := (hs f).absent.mpr (by simp [State.onBay, hb])
    have htb := s.modBay_bay_self (bayOf f) fun x =>
      { x with state := .present, joinRun := 0, missRun := 0, supplyFault := false, fitted := senseFitted bytes }
    have hnew : v.onBay f = (t.bay (bayOf f)).fits (positionOf f) := by
      simp only [State.onBay, hvb, ht, htb]; rfl
    have hown := (hfold.own (positionOf f)).trans (u := v) ⟨rfl, rfl, rfl⟩
    rw [faderAt_bayOf] at hown
    split at hown
    · next hfit => exact (hs f).kept_enter habs (((hsame f).modFader _).trans hown) hset (hnew.trans hfit)
    · next hfit =>
      refine State.SameAt.kept_of_bay ((hsame f).trans hown) (hs f) hset ⟨?_, .inl (by rw [habs]; rfl)⟩
      rw [hnew, (hs f).absent.mp habs]
      simpa using hfit
  · exact State.SameAt.kept_of_bay ((hsame f).trans ((hfold.others f hf).trans (u := v) ⟨rfl, rfl, rfl⟩)) (hs f) hset
      (.of_bay ((hvb _).trans (s.modBay_bay_ne _ hf)))

/-! ### A good frame, whole -/

theorem senseEntry_raw_le (bytes : List Byte) (p : Position) : (senseEntry bytes p).raw ≤ 4095 := by
  have := ((bytes.getD (3 + 2 * p.val) 0).extractLsb' 0 4 ++ bytes.getD (2 + 2 * p.val) 0).isLt
  simp only [senseEntry]
  omega

/-- A fold over the fitted positions of a Present bay, of steps that keep the invariants and the bays. -/
theorem State.forFitted_keeps {s : State} (hs : s.Sound) {b : BayId} (hb : (s.bay b).state = .present)
    {act : State → Position → State} (hframe : ∀ t p, MotionFrame t (act t p))
    (h : ∀ (t : State) p, t.Sound → (t.fader (faderAt b p)).motion ≠ .absent → t.Keeps (act t p)) :
    s.Keeps (s.forFitted b act) := by
  refine hs.keeps_foldl (P := fun t => t.bays = s.bays) rfl fun t p _ ht hbays => ?_
  split
  · next hfit =>
    refine ⟨h t p ht ((ht _).ne_absent_of_onBay ?_), (hframe t p).bays.trans hbays⟩
    rw [State.onBay_congr hbays, State.onBay_faderAt, hb, hfit]; rfl
  · exact ⟨ht.keeps, hbays⟩

theorem State.modBay_bays_congr {s t : State} (h : t.bays = s.bays) (b : BayId) (g : Bay → Bay) :
    (t.modBay b g).bays = (s.modBay b g).bays := by
  simp only [State.modBay, State.setBay, State.bay, h]

theorem State.takeFitted_bays (s : State) (b : BayId) (bytes : List Byte) :
    (s.takeFitted b bytes).bays = (s.modBay b fun x => { x with fitted := senseFitted bytes }).bays := by
  have hframe := MotionFrame.foldl (fun t p => t.fitPosition b (s.bay b).fitted (senseFitted bytes) p)
    (fun t p => t.fitPosition_frame b _ _ p) (List.finRange 8) s
  unfold State.takeFitted
  rw [(MotionFrame.arbitrate _).bays]
  exact State.modBay_bays_congr hframe.bays b _

theorem State.takeSupply_bay (s : State) (b : BayId) (bytes : List Byte) (c : BayId) :
    (s.takeSupply b bytes).bay c = if c = b then
      { s.bay b with supplyFault := !senseSupplyGood bytes, supplyGood := senseSupplyGood bytes } else s.bay c := by
  have hmod : ∀ g : Bay → Bay, (s.modBay b g).bay c = if c = b then g (s.bay b) else s.bay c := fun g => by
    rw [State.modBay_bay]; by_cases h : c = b
    · simp [h]
    · simp [h, Ne.symm h]
  unfold State.takeSupply
  dsimp only
  split
  · next hg => rw [hmod, hg]; rfl
  · next hg =>
    have hg' : senseSupplyGood bytes = false := by simpa using hg
    split
    · rw [hmod, hg']; rfl
    · have hframe := (MotionFrame.forFitted b (fun u p => u.endService (faderAt b p) .supplyFault)
        (fun _ _ => .endService ..) ((s.modBay b fun x =>
          { x with supplyFault := true, supplyGood := false }).raise .supplyFault)).trans (.arbitrate _)
      simp only [State.bay, hframe.bays]
      rw [hg']
      exact hmod fun x => { x with supplyFault := true, supplyGood := false }

/-- A good frame of a Present bay keeps the invariants (R134). -/
theorem State.takeFrame_keeps {s : State} (hs : s.Sound) (arrival : State) {b : BayId} (hb : (s.bay b).state = .present)
    (bytes : List Byte) : s.Keeps (s.takeFrame arrival b bytes) := by
  have h0 : s.Keeps (s.modBay b fun x => { x with missRun := 0 }) := State.modBay_keeps hs b Iff.rfl rfl rfl
  have hb0 : ((s.modBay b fun x => { x with missRun := 0 }).bay b).state = .present := by
    rw [State.modBay_bay_self]; exact hb
  have h1 := h0.trans (State.takeFitted_keeps h0.sound hb0 bytes)
  set s1 := (s.modBay b fun x => { x with missRun := 0 }).takeFitted b bytes with hs1
  have hb1 : (s1.bay b).state = .present := by
    simp only [State.bay, hs1, State.takeFitted_bays]
    exact (congrArg Bay.state (State.modBay_bay_self _ b _)).trans hb0
  have h2 := h1.trans (State.takeSupply_keeps h1.sound b bytes)
  have hb2 : ((s1.takeSupply b bytes).bay b).state = .present := by rw [State.takeSupply_bay, if_pos rfl]; exact hb1
  have hstate : ∀ {t u : State}, MotionFrame t u → (t.bay b).state = .present → (u.bay b).state = .present :=
    fun h k => by simpa only [State.bay, h.bays] using k
  have h3 := h2.trans (State.forFitted_keeps h2.sound hb2
    (act := fun t p => t.takePosition (faderAt b p) (senseEntry bytes p).raw) (fun _ _ => .takePosition ..)
    fun t p ht hp => State.takePosition_keeps ht hp (senseEntry_raw_le bytes p))
  have hb3 := hstate (.forFitted b (fun t p => t.takePosition (faderAt b p) (senseEntry bytes p).raw)
    (fun _ _ => .takePosition ..) _) hb2
  have h4 := h3.trans (State.forFitted_keeps h3.sound hb3
    (act := fun t p => t.touchFrame (faderAt b p) (senseEntry bytes p).touch) (fun _ _ => .touchFrame ..)
    fun t p ht hp => (State.touchFrame_acts ht hp _).keeps)
  have hb4 := hstate (.forFitted b (fun t p => t.touchFrame (faderAt b p) (senseEntry bytes p).touch)
    (fun _ _ => .touchFrame ..) _) hb3
  have h5 := h4.trans (State.forFitted_keeps h4.sound hb4
    (act := fun t p => t.serveFader (faderAt b p) (arrival.slotFor (faderAt b p)).isSome) (fun _ _ => .serveFader ..)
    fun t p ht _ => (State.serveFader_acts ht _ _).keeps)
  have hb5 := hstate (.forFitted b (fun t p => t.serveFader (faderAt b p) (arrival.slotFor (faderAt b p)).isSome)
    (fun _ _ => .serveFader ..) _) hb4
  exact h5.trans (State.forFitted_keeps h5.sound hb5 (fun _ _ => .movedTest ..)
    fun t p ht _ => (State.movedTest_acts ht _ _).keeps)

theorem State.joinBay_state (s : State) (b : BayId) (bytes : List Byte) :
    ((s.joinBay b bytes).bay b) = { s.bay b with
      state := .present, joinRun := 0, missRun := 0, supplyFault := false, fitted := senseFitted bytes } := by
  unfold State.joinBay
  rw [State.raise_bay]
  have hframe := MotionFrame.forFitted b (fun u p => u.enterFader (faderAt b p)) (fun _ _ => .enterFader ..) (s.modBay b fun x =>
    { x with state := .present, joinRun := 0, missRun := 0, supplyFault := false, fitted := senseFitted bytes })
  simp only [State.bay, hframe.bays]
  exact s.modBay_bay_self b _

theorem State.takeGoodFrame_keeps {s : State} (hs : s.Sound) (b : BayId) (bytes : List Byte) :
    s.Keeps (s.takeGoodFrame b bytes) := by
  unfold State.takeGoodFrame
  dsimp only
  split
  · next hb => exact State.modBay_keeps hs b (by simp [hb]) rfl rfl
  · next hb => exact State.modBay_keeps hs b (by simp [hb]) rfl rfl
  · next hb =>
    split
    · have h1 := State.joinBay_keeps hs (b := b) (by simp [hb]) bytes
      exact h1.trans (State.takeFrame_keeps h1.sound s (by rw [State.joinBay_state]) bytes)
    · exact State.modBay_keeps hs b Iff.rfl rfl rfl
  · next hb => exact State.takeFrame_keeps hs s hb bytes

theorem State.receiveFrame_keeps {s : State} (hs : s.Sound) (b : BayId) (bytes : List Byte) :
    s.Keeps (s.receiveFrame b bytes) := by
  unfold State.receiveFrame
  split
  · have h1 : s.Keeps (s.modBay b fun x => { x with window := .answered }) := State.modBay_keeps hs b Iff.rfl rfl rfl
    exact h1.trans (State.takeGoodFrame_keeps h1.sound b bytes)
  · exact hs.keeps

/-! ### Windows and drive frames -/

theorem State.mapSlots_keeps {s : State} (hs : s.Sound) {g : Slot → Slot} (hg : ∀ sl : Slot, sl.Alike (g sl)) :
    s.Keeps (s.mapSlots g) :=
  hs.keeps_of_slots (g := fun _ => g) (fun _ => hg) (by simp) (by simp) (by simp) (by simp) (fun i => by simp) (by simp)

theorem State.zeroDrives_keeps {s : State} (hs : s.Sound) (b : BayId) : s.Keeps (s.zeroDrives b) :=
  State.mapSlots_keeps hs fun sl => by split <;> exact .of_fields rfl rfl rfl rfl rfl rfl rfl

theorem State.missFrame_keeps {s : State} (hs : s.Sound) (b : BayId) : s.Keeps (s.missFrame b) := by
  have h1 := State.zeroDrives_keeps hs b
  unfold State.missFrame
  dsimp only
  split
  · exact h1
  · exact h1
  · next hb =>
    refine h1.trans (State.modBay_keeps h1.sound b ?_ rfl rfl)
    rw [hb]
    cases ((s.zeroDrives b).bay b).origin <;> simp
  · split
    · exact h1.trans (State.loseBay_keeps h1.sound b)
    · exact h1.trans (State.modBay_keeps h1.sound b Iff.rfl rfl rfl)

theorem State.closeWindow_keeps {s : State} (hs : s.Sound) (b : BayId) : s.Keeps (s.closeWindow b) := by
  have h1 : s.Keeps (s.modBay b fun x => { x with window := .closed }) := State.modBay_keeps hs b Iff.rfl rfl rfl
  unfold State.closeWindow
  dsimp only
  split
  · exact h1.trans (State.missFrame_keeps h1.sound b)
  · exact h1

theorem State.sendFrame_keeps {s : State} (hs : s.Sound) (b : BayId) : s.Keeps (s.sendFrame b) := by
  have h1 : s.Keeps (s.countFrame b) :=
    State.mapSlots_keeps hs fun sl => by split <;> exact .of_fields rfl rfl rfl rfl rfl rfl rfl
  unfold State.sendFrame
  exact h1.trans (State.modBay_keeps h1.sound b Iff.rfl rfl rfl)

end Sys2Proof.Machine
end

section
/-! The taper commit and the scale commit (R20, R123), which settle O30. -/

namespace Sys2Proof.Machine

/-! ### The taper commit -/

/-- The ends that a taper commit asks of a table (R20). -/
def taperEnds (l : List TaperPoint) : Prop :=
  ∃ p q, l.head? = some p ∧ l.getLast? = some q ∧ p.pos = 0 ∧ -12000 ≤ p.gain ∧ q.pos = 1000 ∧ q.gain ≤ 2400

theorem taperEnds_iff (l : List TaperPoint) :
    taperEnds l ↔ (l.head?.any fun p => decide (p.pos = 0) && decide (Config.gainMin ≤ p.gain)) = true ∧
      (l.getLast?.any fun p => decide (p.pos = 1000) && decide (p.gain ≤ Config.gainMax)) = true := by
  simp only [Option.any_eq_true, Bool.and_eq_true, decide_eq_true_eq]
  exact ⟨fun ⟨p, q, hp, hq, h1, h2, h3, h4⟩ => ⟨⟨p, hp, h1, h2⟩, q, hq, h3, h4⟩,
    fun ⟨⟨p, hp, h1, h2⟩, q, hq, h3, h4⟩ => ⟨p, q, hp, hq, h1, h2, h3, h4⟩⟩

/-- The points rise along the table in position and in gain (R10, R20). -/
def taperRises (l : List TaperPoint) : Prop :=
  l.Pairwise fun p q => p.pos < q.pos ∧ p.gain < q.gain

theorem taperRises_iff (l : List TaperPoint) : taperRises l ↔ l.IsChain fun p q => p.pos < q.pos ∧ p.gain < q.gain :=
  have : IsTrans TaperPoint fun p q => p.pos < q.pos ∧ p.gain < q.gain :=
    ⟨fun _ _ _ h k => ⟨h.1.trans k.1, h.2.trans k.2⟩⟩
  List.isChain_iff_pairwise.symm

/-- A table that passes the checks of a taper commit is a taper table of R10. -/
theorem taperOk_of_checks {l : List TaperPoint} (hlen : 2 ≤ l.length ∧ l.length ≤ 16) (hends : taperEnds l)
    (hrise : taperRises l) : taperOk l = true := by
  obtain ⟨p, q, hp, hq, h1, h2, h3, h4⟩ := hends
  refine taperOk_iff.mpr ⟨hlen, by simp [hp, h1], by simp [hq, h3], hrise, fun x hx => ⟨?_, ?_⟩⟩
  · obtain ⟨t, rfl⟩ := List.head?_eq_some_iff.mp hp
    rcases List.mem_cons.mp hx with rfl | hx
    · exact h2
    · exact h2.trans ((List.pairwise_cons.mp hrise).1 x hx).2.le
  · obtain ⟨t, rfl⟩ := List.getLast?_eq_some_iff.mp hq
    rcases List.mem_append.mp hx with hx | hx
    · exact ((List.pairwise_append.mp hrise).2.2 x hx q (by simp)).2.le.trans h4
    · rw [List.mem_singleton.mp hx]; exact h4

theorem Staging.points_length (g : Staging) {n : Nat} (h : n ≤ 16) : (g.points n).length = n := by
  simp [Staging.points, h]

/-- The count that a taper commit reads. -/
def Staging.taperSize (g : Staging) : Nat :=
  fieldNat g.taperCount 0 8

/-- The points that a taper commit counts. -/
def Staging.taper (g : Staging) : List TaperPoint :=
  g.points g.taperSize

theorem Staging.taperRefusal_badCount {g : Staging} (h : g.taperSize < 2 ∨ 16 < g.taperSize) :
    g.taperRefusal = some .taperBadCount :=
  if_pos h

theorem Staging.taperRefusal_eq {g : Staging} (h : 2 ≤ g.taperSize ∧ g.taperSize ≤ 16) [Decidable (taperEnds g.taper)]
    [Decidable (taperRises g.taper)] :
    g.taperRefusal =
      if ¬taperEnds g.taper then some .taperBadEnds
      else if ¬taperRises g.taper then some .taperNotIncreasing
      else none := by
  have hcount : ¬(fieldNat g.taperCount 0 8 < 2 ∨ 16 < fieldNat g.taperCount 0 8) := by
    have := h; unfold Staging.taperSize at this; omega
  simp only [Staging.taperRefusal, if_neg hcount, taperEnds_iff, taperRises_iff]
  rfl

/-- A taper commit that is not refused takes a taper table of R10. -/
theorem Staging.taperOk_of_taken {g : Staging} (h : g.taperRefusal = none) : taperOk g.taper = true := by
  classical
  by_cases hcount : 2 ≤ g.taperSize ∧ g.taperSize ≤ 16
  · rw [Staging.taperRefusal_eq hcount] at h
    have hlen : g.taper.length = g.taperSize := g.points_length hcount.2
    by_cases hends : taperEnds g.taper
    · by_cases hrise : taperRises g.taper
      · exact taperOk_of_checks (hlen ▸ hcount) hends hrise
      · simp [hends, hrise] at h
    · simp [hends] at h
  · rw [Staging.taperRefusal_badCount (by omega)] at h
    cases h

theorem State.commitTaper_refused {s : State} {r : RefusalReason} (h : s.staging.taperRefusal = some r) :
    s.commitTaper = s.refuse r := by
  simp only [State.commitTaper, h]

theorem State.commitTaper_taken {s : State} (h : s.staging.taperRefusal = none) :
    s.commitTaper = { s with law := { s.law with taper := s.staging.taper } } := by
  simp only [State.commitTaper, h]; rfl

theorem State.commitTaper_frame (s : State) : s.commitTaper.mem = s.mem ∧ s.commitTaper.bus = s.bus := by
  unfold State.commitTaper; split <;> exact ⟨rfl, rfl⟩

/-! ### The scale commit -/

theorem State.commitScale_frame (s : State) : s.commitScale.mem = s.mem ∧ s.commitScale.bus = s.bus := by
  unfold State.commitScale; dsimp only; split <;> exact ⟨rfl, rfl⟩

theorem Staging.thresholds_eq (g : Staging) : g.thresholds = List.ofFn fun i : Fin 32 => fieldInt g.scale[i] 0 := by
  apply List.ext_getElem
  · simp [Staging.thresholds]
  · intro i h1 h2
    simp [Staging.thresholds, -List.ofFn_succ]

/-- The checks of a scale commit, read as thresholds by number (R123). -/
theorem scaleOk_ofFn (t : Fin 32 → Int) :
    scaleOk (List.ofFn t) = true ↔ -6000 ≤ t 0 ∧ t 31 ≤ 2000 ∧ ∀ i j : Fin 32, i < j → t i < t j := by
  have hhead : (List.ofFn t).head? = some (t 0) := by simp [List.head?_eq_getElem?]
  have hlast : (List.ofFn t).getLast? = some (t 31) := by simp [List.getLast?_eq_getElem?]
  simp only [scaleOk, hhead, hlast, Option.any_some, Bool.and_eq_true, decide_eq_true_eq, List.isChain_iff_pairwise,
    List.pairwise_ofFn, and_assoc]
  rfl

theorem State.commitScale_eq (s : State) :
    s.commitScale = if scaleOk s.staging.thresholds then { s with engine := { s.engine with scale := s.staging.thresholds } }
      else s.refuse .scaleNotAscending := rfl

/-- Settles O30: each check's refusal, and what a table that passes replaces. -/
theorem tableCommits : Obligations.TableCommits := by
  unfold Obligations.TableCommits
  constructor
  · intro u s hr
    have hw := State.writes_of_pulse (c := .taperCommit u) (take := State.commitTaper) (u := u) hr rfl
      s.commitTaper_frame.1 (by rw [State.imageBase, s.commitTaper_frame.2]; rfl)
    have hrefused : ∀ r, s.staging.taperRefusal = some r →
        s.writes (.taperCommit u) 0x058 (u.withCode 0x7E) (s.refuse r) := fun r h =>
      State.commitTaper_refused h ▸ hw
    refine ⟨fun h => hrefused _ (Staging.taperRefusal_badCount h), fun h1 h2 => ?_⟩
    classical
    have hcase := Staging.taperRefusal_eq (g := s.staging) ⟨h1, h2⟩
    refine ⟨fun h => hrefused _ (hcase.trans (if_pos h)),
      fun h h' => hrefused _ (hcase.trans ((if_neg (not_not_intro h)).trans (if_pos h'))), fun h h' => ?_⟩
    have hnone : s.staging.taperRefusal = none :=
      hcase.trans ((if_neg (not_not_intro h)).trans (if_neg (not_not_intro h')))
    exact ⟨State.commitTaper_taken hnone ▸ hw, Staging.taperOk_of_taken hnone⟩
  · intro u s hr
    have hw := State.writes_of_pulse (c := .scaleCommit u) (take := State.commitScale) (u := u) hr rfl
      s.commitScale_frame.1 (by rw [State.imageBase, s.commitScale_frame.2]; rfl)
    rw [State.commitScale_eq, Staging.thresholds_eq] at hw
    refine ⟨fun h => ?_, fun h => ?_⟩
    · rwa [if_pos ((scaleOk_ofFn _).mpr h)] at hw
    · rwa [if_neg fun h' => h ((scaleOk_ofFn _).mp h')] at hw

end Sys2Proof.Machine
end

section
/-! The commands and the frame expiry keep the invariants of every fader. -/

namespace Sys2Proof.Machine

/-! ### Cues and recalls -/

theorem State.fireCue_acts {s : State} (hs : s.Sound) (c : Cue) (now : BitVec 32) :
    Acts {c.fader} s (s.fireCue c now) := by
  have hend : ∀ o k m, Acts {c.fader} s ((s.complete c.fader o k .cue c.tag m).raise .cueException) := fun o k m =>
    have h := State.complete_acts hs c.fader o k .cue c.tag m
    h.trans (State.raise_acts h.sound _ (by decide))
  unfold State.fireCue
  dsimp only
  split
  · exact hend ..
  · split
    · exact hend ..
    · split
      · exact hend ..
      · have h1 : Acts {c.fader} s (if 1 ≤ lateness c.due now then s.raise .cueException else s) := by
          split
          · exact State.raise_acts hs _ (by decide)
          · exact .refl hs
        exact h1.trans (State.accept_acts h1.sound (c.request _))

/-- A change of the cue list, of the recall unit, of the staging copies or of what events report changes no fader. -/
theorem State.cues_keeps {s : State} (hs : s.Sound) (l : CueList) : s.Keeps { s with cues := l } :=
  hs.keeps_of_same (.of_eq rfl rfl) rfl rfl rfl rfl

theorem State.fireFrom_keeps {s : State} (hs : s.Sound) (now : BitVec 32) (c : Cue) : s.Keeps (s.fireFrom now c) :=
  have h := State.cues_keeps hs { s.cues with cues := s.cues.cues.erase c }
  h.trans (State.fireCue_acts h.sound c now).keeps

theorem State.fireCues_keeps {s : State} (hs : s.Sound) (l : List Cue) : s.Keeps (s.fireCues l) :=
  hs.keeps_foldl (P := fun _ => True) trivial fun _ c _ ht _ => ⟨State.fireFrom_keeps ht _ c, trivial⟩

theorem State.tickSurface_keeps {s : State} (hs : s.Sound) : s.Keeps s.tickSurface :=
  State.cues_keeps hs _

theorem State.setAdvance_keeps {s : State} (hs : s.Sound) (a : AdvanceStage) : s.Keeps (s.setAdvance a) :=
  hs.keeps_of_same (.of_eq rfl rfl) rfl rfl rfl rfl

theorem State.fireStage_keeps {s : State} (hs : s.Sound) : s.Keeps s.fireStage := by
  unfold State.fireStage
  dsimp only
  split
  · exact (State.fireCues_keeps hs _).trans (State.setAdvance_keeps (State.fireCues_keeps hs _).sound _)
  · exact (State.fireCues_keeps hs _).trans (State.setAdvance_keeps (State.fireCues_keeps hs _).sound _)

theorem State.cueEvent_keeps {s : State} (hs : s.Sound) : s.Keeps s.cueEvent := by
  have h1 := State.tickSurface_keeps hs
  unfold State.cueEvent
  split
  · exact hs.keeps
  · exact State.fireStage_keeps hs
  · split
    · exact hs.keeps
    · exact h1.trans (State.fireStage_keeps h1.sound)

theorem State.refuse_keeps {s : State} (hs : s.Sound) (r : RefusalReason) : s.Keeps (s.refuse r) :=
  hs.keeps_of_same (.of_eq rfl rfl) rfl rfl rfl rfl

theorem State.arm_keeps {s : State} (hs : s.Sound) : s.Keeps s.arm := by
  unfold State.arm
  dsimp only
  split
  · split
    · exact State.refuse_keeps hs _
    · split
      · exact State.refuse_keeps hs _
      · split
        · exact State.cues_keeps hs _
        · exact State.refuse_keeps hs _
  · exact State.refuse_keeps hs _

theorem State.recalls_keeps {s : State} (hs : s.Sound) (x : RecallUnit) : s.Keeps { s with recalls := x } :=
  hs.keeps_of_same (.of_eq rfl rfl) rfl rfl rfl rfl

theorem State.commitRecall_keeps {s : State} (hs : s.Sound) (count ramp : Nat) : s.Keeps (s.commitRecall count ramp) := by
  unfold State.commitRecall
  split
  · exact State.refuse_keeps hs _
  · exact (State.recalls_keeps hs _).trans (State.issueAll_acts (State.recalls_keeps hs _).sound ..).keeps

theorem State.undoRecall_keeps {s : State} (hs : s.Sound) : s.Keeps s.undoRecall := by
  unfold State.undoRecall
  split
  · exact State.refuse_keeps hs _
  · exact (State.recalls_keeps hs _).trans (State.issueAll_acts (State.recalls_keeps hs _).sound ..).keeps

/-! ### Stop, Restart and RESET -/

theorem State.stopMotion_keeps {s : State} (hs : s.Sound) : s.Keeps s.stopMotion := by
  have h1 : s.Keeps ((List.finRange 16).foldl State.stopSlot s) :=
    hs.keeps_foldl (P := fun _ => True) trivial fun t i _ ht _ => ⟨by
      unfold State.stopSlot
      split
      · exact ht.keeps
      · next hi => exact (State.endUse_acts ht hi _).keeps, trivial⟩
  have hleave : ∀ {l : List Entry} {t : State}, t.Sound → (l.map Entry.fader).Nodup →
      (∀ e ∈ l, (t.fader e.fader).motion = .waiting) →
      t.Keeps (l.foldl (fun u e => u.leaveQueue e.fader .stopped) t) := by
    intro l
    induction l with
    | nil => exact fun ht _ _ => ht.keeps
    | cons e rest ih =>
      intro t ht hnd hw
      obtain ⟨hne, hnr⟩ := List.nodup_cons.mp hnd
      have h2 := (State.leaveQueue_acts ht .stopped (hw e List.mem_cons_self)).keeps
      refine h2.trans (ih h2.sound hnr fun d hd => ?_)
      rw [((t.leaveQueue_only e.fader .stopped).others d.fader fun h => hne (h ▸ List.mem_map_of_mem hd)).fader]
      exact hw d (List.mem_cons_of_mem _ hd)
  exact h1.trans (hleave h1.sound h1.sound.owned.oneEntry h1.sound.owned.entryWaits)

theorem State.queue_run_keeps {s : State} (hs : s.Sound) (r : RunState) :
    s.Keeps { s with queue := { s.queue with run := r } } :=
  hs.keeps_of_same (.of_eq rfl rfl) rfl rfl rfl rfl

theorem State.stopCommand_keeps {s : State} (hs : s.Sound) : s.Keeps s.stopCommand := by
  unfold State.stopCommand
  split
  · exact hs.keeps
  · exact (State.queue_run_keeps hs _).trans (State.stopMotion_keeps (State.queue_run_keeps hs _).sound)

/-- The motion state after Restart is one in which nothing serves the fader (R23). -/
theorem Fader.restartMotion_free (x : Fader) : x.restartMotion.free = true := by
  unfold Fader.restartMotion
  split
  iterate 4 exact Calibration.motion_free x.cal
  all_goals next hm => rw [hm]; rfl

theorem Fader.restartMotion_absent (x : Fader) : x.restartMotion = .absent ↔ x.motion = .absent := by
  unfold Fader.restartMotion; split <;> simp [*]

/-- With the homing of a fader dropped, its per-mille is within range (R23, R70). -/
theorem State.unparkedPerMille_le {s : State} {f : FaderId} (h : s.PlacedAt f) : s.unparkedPerMille f ≤ 1000 := by
  unfold State.unparkedPerMille
  dsimp only
  split
  · exact h.inRange.2.1
  · split
    · exact perMilleOfRaw_le ..
    · exact h.inRange.2.1

/-- With the homing of a fader dropped, its per-mille follows the calibration record (R23, R70). -/
theorem State.unparkedPerMille_eq {s : State} {f : FaderId} (hs : s.SoundAt f) (h : s.TrackedAt f) :
    s.unparkedPerMille f = perMilleOfRaw (s.fader f).cal.low (s.fader f).cal.high (s.fader f).raw := by
  have hnone : s.slotsOf f = noSlot →
      s.unparkedPerMille f = perMilleOfRaw (s.fader f).cal.low (s.fader f).cal.high (s.fader f).raw := fun n => by
    simp only [State.unparkedPerMille, State.slotFor_eq_none n]
    exact h.record_of_noSlot n
  cases hs.served with
  | free _ _ n => exact hnone n
  | waits _ _ _ n => exact hnone n
  | driven i sl _ _ n =>
    simp only [State.unparkedPerMille, State.slotFor_eq_some n]
    split
    · rfl
    · next hpark => exact h.record_of_onlySlot n hpark

/-- What Restart makes of each fader record (R23). -/
def State.restarted (s : State) (f : FaderId) (x : Fader) : Fader :=
  { x with perMille := s.unparkedPerMille f }.restart s.law

theorem State.restartCommand_faders (s : State) : s.restartCommand.faders = (s.mapFaders s.restarted).faders := by
  have : (fun f x => { x with perMille := s.unparkedPerMille f }.restart s.law) = s.restarted := rfl
  simp only [State.restartCommand, this]

theorem State.restartCommand_fader (s : State) (f : FaderId) : s.restartCommand.fader f = s.restarted f (s.fader f) := by
  rw [← s.mapFaders_fader s.restarted f]
  simp only [State.fader, State.restartCommand_faders]

theorem State.restartCommand_frame (s : State) :
    s.restartCommand.law = s.law ∧ s.restartCommand.setup = s.setup ∧ s.restartCommand.bays = s.bays ∧
      s.restartCommand.queue.entries = [] ∧ s.restartCommand.table.slots = Vector.replicate 16 none := by
  simp only [State.restartCommand, State.mapFaders, and_self]

theorem State.restartCommand_keeps {s : State} (hs : s.Sound) : s.Keeps s.restartCommand := by
  intro f
  obtain ⟨hl, hg, hb, hq, ht⟩ := s.restartCommand_frame
  have hx := s.restartCommand_fader f
  have he : s.restartCommand.entriesOf f = [] := by simp [State.entriesOf, hq]
  have hn : s.restartCommand.slotsOf f = noSlot := by funext i; simp [State.slotsOf, State.slot, ht, noSlot]
  generalize s.restartCommand = t at *
  have hfree : (t.fader f).motion.free = true := by rw [hx]; exact Fader.restartMotion_free _
  refine ⟨⟨.free hfree he hn, ?_, fun ha => ⟨by rw [hx]; rfl, ?_⟩, .inl hfree⟩,
    fun hpl => ⟨hl ▸ hpl.taper, hg ▸ hpl.span, ?_, by simp [hn, noSlot], ?_⟩, fun htr => ?_,
    fun _ hp => absurd (by rw [hx]; rfl) hp⟩
  · rw [State.onBay_congr hb, ← (hs f).absent, hx]
    exact Fader.restartMotion_absent _
  · rw [hx] at ha ⊢
    exact ((hs f).gone ((Fader.restartMotion_absent _).mp ha)).2
  · rw [hx]; exact hpl.cal
  · have hle := State.unparkedPerMille_le hpl
    rw [hx]; exact ⟨hpl.inRange.1, hle, hle⟩
  · unfold State.TrackedAt
    rw [State.calInForce_of_noSlot hn, hx]
    exact State.unparkedPerMille_eq (hs f) htr

/-- The state after RESET has every fader Absent, with no bay Present. -/
theorem State.soundAt_reset (f : FaderId) :
    State.reset.SoundAt f ∧ State.reset.PlacedAt f ∧ State.reset.TrackedAt f ∧ State.reset.PendedAt f := by
  have hx : State.reset.fader f = Fader.reset := by simp [State.reset, State.fader]
  have hn : State.reset.slotsOf f = noSlot := by funext i; simp [State.reset, State.slotsOf, State.slot, noSlot]
  have hb : State.reset.onBay f = false := by simp [State.reset, State.onBay, State.bay, Bay.reset]
  refine ⟨⟨.free (by rw [hx]; rfl) rfl hn, by rw [hx, hb]; simp [Fader.reset], fun _ => by rw [hx]; simp [Fader.reset],
    .inl (by rw [hx]; rfl)⟩,
    ⟨by decide, by decide, by rw [hx]; decide, by simp [hn, noSlot], by rw [hx]; decide⟩, ?_,
    fun h => absurd (by rw [hx]; rfl) h⟩
  unfold State.TrackedAt
  rw [State.calInForce_of_noSlot hn, hx]
  decide

theorem State.assertReset_keeps (s : State) : s.Keeps s.assertReset := fun f =>
  have h := State.soundAt_reset f
  have k : State.reset.Kept s.assertReset f := State.SameAt.kept ⟨rfl, rfl, rfl⟩ rfl rfl rfl h.1
  ⟨k.sound, fun _ => k.placed h.2.1, fun _ => k.tracked h.2.2.1, fun _ => k.pended h.2.2.2⟩

/-! ### Home, Release and inhibit -/

theorem State.homeTakeover_acts {s : State} (hs : s.Sound) {i : SlotId} {sl : Slot} (hi : s.slot i = some sl)
    (hu : sl.use ≠ .homing) : Acts {sl.fader} s (s.homeTakeover i sl) := by
  have h1 : Acts {sl.fader} s
      (if sl.use = .moving then s.complete sl.fader .cancelled .none sl.cls sl.tag sl.marks else s) := by
    split
    · exact State.complete_acts hs ..
    · exact .refl hs
  have hfader : ∀ f, (if sl.use = .moving then s.complete sl.fader .cancelled .none sl.cls sl.tag sl.marks else s).fader f =
      s.fader f := fun f => by split <;> rfl
  have hi1 : (if sl.use = .moving then s.complete sl.fader .cancelled .none sl.cls sl.tag sl.marks else s).slot i =
      some sl := by split <;> exact hi
  unfold State.homeTakeover
  dsimp only
  generalize (if sl.use = .moving then s.complete sl.fader .cancelled .none sl.cls sl.tag sl.marks else s) = t at *
  obtain ⟨hm, he, hn⟩ := (h1.sound sl.fader).driven_of_slot hi1
  set new := homingSlot sl.fader 0 Marks.clear (s.fader sl.fader).raw
  have hnew : new.use = .homing ∧ new.phase ≠ .park := ⟨rfl, by simp [new, homingSlot]⟩
  refine h1.trans (OnlyAt.acts_drive (i := i) (sl := new) ((OnlyAt.reSlot (sl' := new) hi1 rfl).trans (.modFader ..)) h1.sound ?_
    (by simp [hm]) ?_ ?_ ?_ (fun hp => ?_) (fun hp => ?_) (fun _ => Slot.setpointOk_of_seeking hnew) (fun ht => ?_))
  · constructor <;> simp
  · simp [hnew.1, SlotUse.motion]
  · simpa using he
  · rw [State.modFader_slotsOf]; exact State.slotsOf_reSlot hn rfl
  · simpa using hp.inRange.2.2
  · simpa using hp.inRange.2.1
  · rw [Slot.ends_of_not_park fun h => hnew.2 h.2]
    simpa using ht.record_of_onlySlot hn fun h => hu h.1

theorem State.homeWaiting_acts {s : State} (hs : s.Sound) {f : FaderId} (hw : (s.fader f).motion = .waiting) :
    Acts {f} s (s.homeWaiting f) := by
  obtain ⟨e, he, rfl, -⟩ := (hs f).waiting_of hw
  unfold State.homeWaiting
  simp only [he]
  have h1 := State.modFader_acts hs (f := e.fader) (g := fun x => { x with cls := e.cls, tag := 0 })
    (by constructor <;> rfl) rfl rfl fun hp => hp.inRange.2.2
  exact (h1.trans (State.replaceEntry_acts h1.sound { e with kind := .home, tag := 0, ramp := 0, marks := Marks.clear }
    (by simpa using hw))).arbitrate

theorem State.homeCommand_keeps {s : State} (hs : s.Sound) (f : FaderId) : s.Keeps (s.homeCommand f) := by
  have hjoin : (s.fader f).motion.free = true → (s.fader f).motion ≠ .absent → s.Servable f →
      s.Keeps (((s.modFader f fun x => { x with cls := .home, tag := 0 }).joinQueue f .home .home 0 0
        Marks.clear).arbitrate) := by
    intro hfree hnot hserv
    have h1 := State.modFader_acts hs (f := f) (g := fun x => { x with cls := .home, tag := 0 })
      (by constructor <;> rfl) rfl rfl fun hp => hp.inRange.2.2
    exact (h1.trans (State.joinQueue_acts h1.sound (by simpa using hfree) (by simpa using hnot)
      ⟨by simpa [Fader.held] using hserv.untouched, by simpa using hserv.enabled, hserv.supplied⟩ ..)).arbitrate.keeps
  unfold State.homeCommand
  dsimp only
  split
  · exact State.refuse_keeps hs _
  split
  · exact hs.keeps
  split
  · exact hs.keeps
  split
  · exact hs.keeps
  next hnot hheld hblocked =>
  have hserv : s.Servable f := by
    simp only [Bool.or_eq_true, not_or, Bool.not_eq_true] at hblocked
    exact ⟨by simpa using hheld, hblocked.1, hblocked.2⟩
  split
  iterate 3 next hm => exact hjoin (by rw [hm]; rfl) (by simp [hm]) hserv
  · next hm => exact (State.homeWaiting_acts hs hm).keeps
  iterate 2
    · next hm =>
      obtain ⟨i, sl, hsl, hi, rfl, hu, -⟩ := (hs f).driven_of (by simp [hm])
      simp only [hsl]
      exact (State.homeTakeover_acts hs hi fun h => by simp [hu, h, SlotUse.motion] at hm).keeps
  all_goals exact hs.keeps

theorem State.releaseCommand_keeps {s : State} (hs : s.Sound) (f : FaderId) : s.Keeps (s.releaseCommand f) := by
  unfold State.releaseCommand
  dsimp only
  split
  · next hheld =>
    exact (State.modFader_acts_hold hs rfl rfl rfl rfl rfl rfl (fun ha => ((hs f).gone ha).1)
      (.inl ((hs f).free_of_held hheld)) fun _ hp => absurd rfl hp).keeps
  split
  · next hw => exact (State.leaveQueue_acts hs _ hw).arbitrate.keeps
  iterate 2
    · next hm =>
      obtain ⟨i, sl, hsl, hi, rfl, hu, -⟩ := (hs f).driven_of (by simp [hm])
      simp only [hsl]
      split
      · next hmove => exact (State.endMove_acts hs hi hmove _).arbitrate.keeps
      · next hmove =>
        refine (State.endHold_acts hs hi ?_).arbitrate.keeps
        cases huse : sl.use <;> simp_all [SlotUse.motion]
  all_goals exact hs.keeps

end Sys2Proof.Machine
end

section
/-! A control word write, the frame expiry and the setup words keep the invariants of every fader, and so does whatever a
command word takes. -/

namespace Sys2Proof.Machine

/-! ### The control word -/

/-- A fader record with the fields of a control word (R7). -/
def Fader.controlled (x : Fader) (c : ControlFields) : Fader :=
  { x with mode := c.mode, groups := c.groups, latched := c.latched, inhibit := c.inhibit }

/-- What the end of a service makes of a record does not read the control fields. -/
theorem Fader.afterEnd_controlled (x : Fader) (c : ControlFields) (p : Nat) :
    (x.controlled c).afterEnd p = (x.afterEnd p).controlled c := by
  cases hm : x.motion <;> simp [Fader.afterEnd, Fader.controlled, hm]

theorem State.owned_modFader {s : State} (hs : s.owned) (f : FaderId) {g : Fader → Fader}
    (hg : (g (s.fader f)).motion = (s.fader f).motion) : (s.modFader f g).owned := by
  have hm : ∀ h, ((s.modFader f g).fader h).motion = (s.fader h).motion := fun h => by
    rw [State.modFader_fader]; split
    · next e => rw [← e, hg]
    · rfl
  constructor
  · exact hs.oneEntry
  · intro e he; rw [hm]; exact hs.entryWaits e he
  · intro h; rw [hm]; exact hs.waitingHasEntry h
  · intro i; simp only [hm]; exact hs.slotMoves i
  · exact hs.oneSlot
  · intro h; rw [hm]; exact hs.movingHasSlot h

theorem State.unparkedPerMille_congr {s t : State} {f : FaderId} (hn : t.slotsOf f = s.slotsOf f)
    (hp : (t.fader f).perMille = (s.fader f).perMille) (hc : (t.fader f).cal = (s.fader f).cal)
    (hr : (t.fader f).raw = (s.fader f).raw) : t.unparkedPerMille f = s.unparkedPerMille f := by
  simp only [State.unparkedPerMille, State.slotFor_eq, hn, hp, hc, hr]

/-- The end of a service and new control fields of its fader: in either order the same is left of every fader. -/
theorem State.endService_controlled {s : State} (hs : s.owned) (f : FaderId) (c : ControlFields) (o : EndOutcome)
    (g : FaderId) : ((s.endService f o).modFader f fun x => x.controlled c).SameAt
      ((s.modFader f fun x => x.controlled c).endService f o) g := by
  by_cases hg : g = f
  · subst hg
    obtain ⟨h1, h2, h3⟩ := State.endService_at hs g o
    obtain ⟨k1, k2, k3⟩ :=
      State.endService_at (State.owned_modFader hs g (g := fun x => x.controlled c) rfl) g o
    have hp : (s.modFader g fun x => x.controlled c).unparkedPerMille g = s.unparkedPerMille g :=
      State.unparkedPerMille_congr rfl (by simp [Fader.controlled]) (by simp [Fader.controlled])
        (by simp [Fader.controlled])
    refine ⟨?_, k2.trans h2.symm, k3.trans h3.symm⟩
    rw [k1, State.modFader_fader_self, State.modFader_fader_self, h1, Fader.afterEnd_controlled, hp]
  · have h1 := ((s.endService_only f o).trans (.modFader _ f fun x => x.controlled c)).others g hg
    have h2 := ((OnlyAt.modFader s f fun x => x.controlled c).trans (State.endService_only _ f o)).others g hg
    exact ⟨h2.fader.trans h1.fader.symm, h2.entries.trans h1.entries.symm, h2.slots.trans h1.slots.symm⟩

/-- The invariants of every fader are kept into a state that is the same for each. -/
theorem State.Sound.keeps_of_sameAt {s t : State} (hs : s.Sound) (h : ∀ f, s.SameAt t f) (hb : t.bays = s.bays)
    (hl : t.law = s.law) (hg : t.setup = s.setup) : s.Keeps t :=
  fun f => (h f).kept hb hl hg (hs f)

theorem State.takeControl_keeps {s : State} (hs : s.Sound) (f : FaderId) (c : ControlFields) :
    s.Keeps (s.takeControl f c) := by
  have hmod : ∀ {t : State}, t.Sound → (t.fader f).motion.free = true ∨ (t.modFader f fun x => x.controlled c).Servable f →
      t.Keeps (t.modFader f fun x => x.controlled c) := fun {t} ht hserv =>
    (State.modFader_acts_hold ht rfl rfl rfl rfl rfl rfl (fun ha => ((ht f).gone ha).1) hserv id).keeps
  unfold State.takeControl
  split
  · have h1 := (State.endService_acts hs f .inhibited).keeps
    have h2 := h1.trans (hmod h1.sound (.inl (State.endService_free hs.owned f _)))
    have hframe := (MotionFrame.endService s f .inhibited).trans (.modFader _ f fun x => x.controlled c)
    have hframe' := (MotionFrame.modFader s f fun x => x.controlled c).trans (.endService _ f .inhibited)
    have h3 := h2.trans (h2.sound.keeps_of_sameAt (State.endService_controlled hs.owned f c .inhibited)
      (hframe'.bays.trans hframe.bays.symm) (hframe'.law.trans hframe.law.symm) (hframe'.setup.trans hframe.setup.symm))
    exact h3.trans (State.arbitrate_acts h3.sound).keeps
  · next hnew =>
    refine hmod hs ((hs f).servable.imp_right fun h => ⟨?_, ?_, h.supplied⟩)
    · simpa [Fader.controlled, Fader.held] using h.untouched
    · simpa [Fader.controlled, h.enabled] using hnew

/-! ### The frame expiry -/

theorem Slot.alike_tick (sl : Slot) : sl.Alike sl.tick := by
  unfold Slot.tick
  repeat' split
  all_goals exact .of_fields rfl rfl rfl rfl rfl rfl rfl

theorem State.slotEvent_keeps {s : State} (hs : s.Sound) (i : SlotId) (due : Slot → Bool) :
    s.Keeps (s.slotEvent i due) := by
  unfold State.slotEvent
  split
  · exact hs.keeps
  · next sl hi =>
    split
    · have h1 : s.Keeps (s.countSlot i) := hs.keeps_of_same (.of_eq rfl rfl) rfl rfl rfl rfl
      have ht := sl.alike_tick
      have h2 := h1.trans (State.reSlot_acts h1.sound (i := i) (sl := sl) hi ht.fader ht.use (ht.ends _)
        fun hp => (ht.setpointOk _).trans (hp.setpointOk hi)).keeps
      exact h2.trans (State.judgeSlot_acts h2.sound i).keeps
    · exact hs.keeps

theorem State.tickSlots_slot (s : State) (i : SlotId) :
    s.tickSlots.slot i = (s.slot i).map fun sl => if s.early.slots[i] then sl else sl.tick := by
  have : s.tickSlots.slot i = if s.early.slots[i] then s.slot i else (s.slot i).map Slot.tick := by
    simp only [State.slot, State.tickSlots, Fin.getElem_fin, Vector.getElem_ofFn]
  rw [this]
  split <;> simp

theorem State.tickSlots_keeps {s : State} (hs : s.Sound) : s.Keeps s.tickSlots := by
  refine hs.keeps_of_slots (g := fun i sl => if s.early.slots[i] then sl else sl.tick) (fun i sl => ?_) (by simp only [State.tickSlots])
    (by simp only [State.tickSlots]) (by simp only [State.tickSlots]) (by simp only [State.tickSlots]) s.tickSlots_slot
    (by simp only [State.tickSlots])
  split
  · exact .refl sl
  · exact sl.alike_tick

theorem Fader.alike_tick (x : Fader) : x.Alike x.tick := by
  unfold Fader.tick; split <;> constructor <;> rfl

theorem State.tickQuiet_keeps {s : State} (hs : s.Sound) : s.Keeps s.tickQuiet :=
  hs.keeps_of_same (.of_eq rfl rfl) rfl rfl rfl rfl

theorem State.endExpiry_keeps {s : State} (hs : s.Sound) : s.Keeps s.endExpiry :=
  hs.keeps_of_same (.of_eq rfl rfl) rfl rfl rfl rfl

theorem State.tickCounters_keeps {s : State} (hs : s.Sound) : s.Keeps s.tickCounters := by
  have h1 := State.tickSlots_keeps hs
  have h2 := h1.trans (h1.sound.keeps_of_faders (g := fun _ x => x.tick) (fun _ x => x.alike_tick)
    (fun _ x => by unfold Fader.tick; split <;> rfl) (fun _ x => by unfold Fader.tick; split <;> rfl)
    (fun _ x => by unfold Fader.tick; split <;> rfl))
  exact h2.trans (State.tickQuiet_keeps h2.sound)

theorem State.meterExpiry_keeps {s : State} (hs : s.Sound) (m : MeterId) : s.Keeps (s.meterExpiry m) := by
  unfold State.meterExpiry
  dsimp only
  split <;> exact hs.keeps_of_same (.of_eq rfl rfl) rfl rfl rfl rfl

theorem State.meterShare_keeps {s : State} (hs : s.Sound) (m : MeterId) : s.Keeps (s.meterShare m) := by
  unfold State.meterShare
  split
  · exact hs.keeps
  · exact State.meterExpiry_keeps hs m

theorem State.advanceShare_keeps {s : State} (hs : s.Sound) : s.Keeps s.advanceShare := by
  unfold State.advanceShare
  split
  · exact (State.tickSurface_keeps hs).trans (State.fireCues_keeps (State.tickSurface_keeps hs).sound _)
  · exact State.fireCues_keeps hs _
  · exact hs.keeps

/-- A fold of one kind of step over a list keeps the invariants. -/
theorem State.Sound.keeps_all {α : Type} {act : State → α → State} {s : State} (hs : s.Sound)
    (h : ∀ {t : State}, t.Sound → ∀ a, t.Keeps (act t a)) (l : List α) : s.Keeps (l.foldl act s) :=
  hs.keeps_foldl (P := fun _ => True) trivial fun _ a _ ht _ => ⟨h ht a, trivial⟩

theorem State.expire_keeps {s : State} (hs : s.Sound) : s.Keeps s.expire := by
  have h1 := State.tickCounters_keeps hs
  have h2 := h1.trans (h1.sound.keeps_all State.closeWindow_keeps (List.finRange 6))
  have h3 := h2.trans (h2.sound.keeps_all (fun ht i => (State.judgeSlot_acts ht i).keeps) (List.finRange 16))
  have h4 := h3.trans (h3.sound.keeps_all (fun ht f => (State.judgeGuard_acts ht f).keeps) (List.finRange 48))
  have h5 := h4.trans (State.advanceShare_keeps h4.sound)
  have h6 := h5.trans (h5.sound.keeps_all State.meterShare_keeps (List.finRange 48))
  have h7 := h6.trans (h6.sound.keeps_all State.sendFrame_keeps (List.finRange 6))
  exact h7.trans (State.endExpiry_keeps h7.sound)

/-! ### Setup words -/

theorem State.setup_keeps {s : State} (hs : s.Sound) {g : MotionSetup} (h : 1 ≤ s.setup.minSpan → 1 ≤ g.minSpan) :
    s.Keeps { s with setup := g } :=
  hs.keeps_of_same ⟨id, h⟩ rfl rfl rfl rfl

theorem State.setFaderSetup_keeps {s : State} (hs : s.Sound) (f : FaderId) (g : FaderSetup → FaderSetup) :
    s.Keeps (s.setFaderSetup f g) :=
  (State.modFader_acts hs (by constructor <;> rfl) rfl rfl fun hp => hp.inRange.2.2).keeps

theorem State.takeSetup_keeps {s : State} (hs : s.Sound) (w : SetupWord) (v : Word) : s.Keeps (s.takeSetup w v) := by
  cases w with
  | stallSetup | moveLimit | homingA | touchSetup => exact State.setup_keeps hs id
  | homingB => exact State.setup_keeps hs fun _ => by simp [MotionSetup.takeHomingB, clampNat]
  | cutPosition => exact hs.keeps_of_same ⟨id, id⟩ rfl rfl rfl rfl
  | faderA f => exact State.setFaderSetup_keeps hs f fun x => x.takeA v
  | faderB f => exact State.setFaderSetup_keeps hs f fun x => x.takeB v
  | levelsSecond => exact hs.keeps
  | lateLimit | levelsFirst | attentionControl | meterA _ | meterB _ | meterC _ =>
    exact hs.keeps_of_same (.of_eq rfl rfl) rfl rfl rfl rfl

/-! ### Command words -/

theorem State.commitTaper_keeps {s : State} (hs : s.Sound) : s.Keeps s.commitTaper := by
  cases h : s.staging.taperRefusal with
  | some r => rw [State.commitTaper_refused h]; exact State.refuse_keeps hs r
  | none =>
    rw [State.commitTaper_taken h]
    exact hs.keeps_of_same ⟨fun _ => Staging.taperOk_of_taken h, id⟩ rfl rfl rfl rfl

theorem State.commitScale_keeps {s : State} (hs : s.Sound) : s.Keeps s.commitScale := by
  rw [State.commitScale_eq]
  split
  · exact hs.keeps_of_same (.of_eq rfl rfl) rfl rfl rfl rfl
  · exact State.refuse_keeps hs _

theorem State.acknowledge_keeps {s : State} (hs : s.Sound) (n : Nat) : s.Keeps (s.acknowledge n) := by
  unfold State.acknowledge
  split
  · exact hs.keeps_of_same (.of_eq rfl rfl) rfl rfl rfl rfl
  · split
    · exact State.refuse_keeps hs _
    · exact hs.keeps

theorem State.takeCommand_keeps {s : State} (hs : s.Sound) (cw : CommandWord) (code : Byte) (u : UpperLanes) :
    s.Keeps (s.takeCommand cw code u) := by
  have hite : ∀ {p : Prop} [Decidable p] {a b : State}, s.Keeps a → s.Keeps b → s.Keeps (if p then a else b) :=
    fun ha hb => by split <;> assumption
  have href := State.refuse_keeps hs .unknownCommand
  unfold State.takeCommand
  refine hite hs.keeps ?_
  cases cw with
  | runControl =>
    exact hite (State.stopCommand_keeps hs) (hite (State.queue_run_keeps hs _) (hite (State.restartCommand_keeps hs) href))
  | faderCommand f => exact hite (State.homeCommand_keeps hs f) (hite (State.releaseCommand_keeps hs f) href)
  | cueArm => exact hite (State.arm_keeps hs) href
  | cueCancel => exact hite (State.cues_keeps hs _) href
  | recallCommit => exact hite (State.commitRecall_keeps hs _ _) (hite (State.undoRecall_keeps hs) href)
  | taperCommit => exact hite (State.commitTaper_keeps hs) href
  | scaleCommit => exact hite (State.commitScale_keeps hs) href
  | acknowledge => exact State.acknowledge_keeps hs _

end Sys2Proof.Machine
end

section
/-! Every step as what one block takes, between changes that no block sees: the case analysis of the commands, made once. It
settles O55 and O58. -/

namespace Sys2Proof.Machine

/-! ### What a step takes -/

/-- From `s` to `t` nothing changes but the bus, memory, the commands that wait, the attention line, and what the part
records of events and completions. -/
structure State.Aside (s t : State) : Prop where
  law : t.law = s.law
  faders : t.faders = s.faders
  queue : t.queue = s.queue
  table : t.table = s.table
  setup : t.setup = s.setup
  cues : t.cues = s.cues
  engine : t.engine = s.engine
  bays : t.bays = s.bays
  levels : t.attn.levels = s.attn.levels
  threshold : t.attn.threshold = s.attn.threshold
  quiet : t.attn.quiet = s.attn.quiet

theorem State.Aside.refl (s : State) : s.Aside s := by
  constructor <;> rfl

theorem State.Aside.store (s : State) (a : Nat) (l : Lanes) : s.Aside (s.store a l) := by
  constructor <;> rfl

theorem State.Aside.driveAttn {s t : State} (h : s.Aside t) : s.Aside t.driveAttn :=
  ⟨h.law, h.faders, h.queue, h.table, h.setup, h.cues, h.engine, h.bays, h.levels, h.threshold, h.quiet⟩

/-- What the blocks of the part take on one step: nothing, an event of their own, a request, a value from the bus, a command,
or a read that acts. -/
inductive State.Taken (s : State) : State → Prop
  | nothing : Taken s s
  | reset : Taken s s.assertReset
  | expiry : Taken s s.expire
  | cues : Taken s s.cueEvent
  | meterTimeout (m : MeterId) : Taken s (s.meterEvent m)
  | slotTimeout (i : SlotId) (due : Slot → Bool) : Taken s (s.slotEvent i due)
  | guardEnd (f : FaderId) : Taken s (s.guardEvent f)
  | quietEnd : Taken s s.quietEvent
  | window (b : BayId) : Taken s (s.windowEvent b)
  | frame (b : BayId) (bytes : List Byte) : Taken s (s.receiveFrame b bytes)
  | grant : Taken s (s.grantStep.getD s)
  | preemption : Taken s (s.preemptStep.getD s)
  | request (r : Request) : Taken s (s.accept r)
  | control (f : FaderId) (c : ControlFields) : Taken s (s.takeControl f c)
  | intake (m : MeterId) (v : Word) : Taken s (s.intake m (takeLevel v))
  | surface (v : Word) : Taken s { s with cues := s.cues.setTime v }
  | slotLimit (n : Nat) : Taken s (State.arbitrate { s with table := { s.table with limit := clampNat 1 16 n } })
  | quiet (n : Nat) : Taken s { s with attn := { s.attn with quiet := clampNat 0 255 n } }
  | setup (w : SetupWord) (v : Word) : Taken s (s.takeSetup w v)
  | command (cw : CommandWord) (code : Byte) (u : UpperLanes) : Taken s (s.takeCommand cw code u)
  | moved (h : MovedHalf) : Taken s (s.takeMoved h)
  | overRead (m : MeterId) : Taken s (s.clearOver m)

/-- A step of the blocks, before and after changes that no block sees. -/
def State.Steps (s t : State) : Prop :=
  ∃ a u, s.Aside a ∧ a.Taken u ∧ u.Aside t

theorem State.Taken.steps {s t u : State} (h : s.Taken u) (k : u.Aside t) : s.Steps t :=
  ⟨s, u, .refl s, h, k⟩

theorem State.Aside.steps {s t : State} (h : s.Aside t) : s.Steps t :=
  State.Taken.nothing.steps h

theorem State.Steps.driveAttn {s t : State} (h : s.Steps t) : s.Steps t.driveAttn := by
  obtain ⟨a, u, h1, h2, h3⟩ := h
  exact ⟨a, u, h1, h2, h3.driveAttn⟩

theorem State.steps_of_done {s t u : State} (h : u.done = .next t) (k : s.Steps u) : s.Steps t := by
  cases h; exact k.driveAttn

theorem State.steps_unlessReset {s : State} {act : State → State} (h : s.Taken (act s)) : s.Steps (s.unlessReset act) := by
  unfold State.unlessReset
  split
  · exact (State.Aside.refl s).steps
  · exact h.steps (.refl _)

theorem State.steps_onBus {s : State} {w : ImageWord} {l : Lanes} {take : State → State} (h : s.Steps (take s)) :
    s.Steps (s.onBus w l take) := by
  unfold State.onBus
  split
  · exact (State.Aside.store ..).steps
  · exact h

theorem State.writeTarget_steps (s : State) (f : FaderId) (l : Lanes) : s.Steps (s.writeTarget f l) :=
  State.steps_onBus ((State.Taken.request _).steps (.store ..))

theorem State.takeControlWord_steps (s : State) (f : FaderId) (v : Word) : s.Steps (s.takeControlWord f v) :=
  (State.Taken.control f _).steps (.store ..)

theorem State.writeControl_steps (s : State) (f : FaderId) (l : Lanes) : s.Steps (s.writeControl f l) :=
  State.steps_onBus (s.takeControlWord_steps ..)

theorem State.writeAlias_steps (s : State) (k : AliasKind) (f : FaderId) (l : Lanes) : s.Steps (s.writeAlias k f l) :=
  State.steps_onBus (s.takeControlWord_steps ..)

theorem State.writeIntake_steps (s : State) (m : MeterId) (l : Lanes) : s.Steps (s.writeIntake m l) :=
  State.steps_onBus ((State.Taken.intake m _).steps (.store ..))

theorem State.writeSurface_steps (s : State) (l : Lanes) : s.Steps (s.writeSurface l) :=
  State.steps_onBus ((State.Taken.surface _).steps (.store ..))

theorem State.writeSlotLimit_steps (s : State) (l : Lanes) : s.Steps (s.writeSlotLimit l) :=
  State.steps_onBus ((State.Taken.slotLimit _).steps (.store ..))

theorem State.writeQuiet_steps (s : State) (l : Lanes) : s.Steps (s.writeQuiet l) :=
  State.steps_onBus ((State.Taken.quiet _).steps (.store ..))

theorem State.writeSetup_steps (s : State) (w : SetupWord) (l : Lanes) : s.Steps (s.writeSetup w l) :=
  State.steps_onBus ((State.Taken.setup w _).steps (.store ..))

theorem State.writeStaging_steps (s : State) (w : StagingWord) (l : Lanes) : s.Steps (s.writeStaging w l) :=
  State.steps_onBus (State.Aside.steps (by constructor <;> rfl))

/-- A pulse takes what its command word takes of the code. -/
theorem State.pulse_steps {s : State} {cw : CommandWord} {code : Byte} {u : UpperLanes} {take : State → State}
    (h : s.takeCommand cw code u = take s) : s.Steps (s.pulse cw code u take) :=
  State.steps_onBus ((h ▸ State.Taken.command cw code u : s.Taken (take s)).steps (.store ..))

theorem State.takeCommand_acknowledge (s : State) (n : Byte) (u : UpperLanes) :
    s.takeCommand .acknowledge n u = s.acknowledge n.toNat := by
  unfold State.takeCommand
  split
  · next h => subst h; rfl
  · rfl

theorem State.writeWord_steps (s : State) (w : ImageWord) (l : Lanes) : s.Steps (s.writeWord w l) := by
  cases w with
  | target f => exact s.writeTarget_steps f l
  | control f => exact s.writeControl_steps f l
  | controlAlias k f => exact s.writeAlias_steps k f l
  | intake m => exact s.writeIntake_steps m l
  | surfaceTime => exact s.writeSurface_steps l
  | slotLimit => exact s.writeSlotLimit_steps l
  | quiet => exact s.writeQuiet_steps l
  | setup w => exact s.writeSetup_steps w l
  | staging w => exact s.writeStaging_steps w l
  | command cw => exact (State.Taken.command cw _ _).steps (.store ..)
  | _ => exact (State.Aside.store ..).steps

theorem State.writeAt_steps (s : State) (addr : BitVec 32) (l : Lanes) : s.Steps (s.writeAt addr l) := by
  unfold State.writeAt
  split
  · exact s.writeWord_steps _ l
  · exact (State.Aside.store ..).steps

theorem State.readWord_steps {s : State} {w : ImageWord} {act : State → State}
    (h : ∀ t : State, t.Taken (act t) ∨ t.Aside (act t)) : s.Steps (s.readWord w act) := by
  have hread : s.Aside { s with bus := { s.bus with readData := s.wordData w } } := by constructor <;> rfl
  unfold State.readWord
  dsimp only
  split
  · exact hread.steps
  · rcases h { s with bus := { s.bus with readData := s.wordData w } } with h | h
    · exact ⟨_, _, hread, h, .refl _⟩
    · exact ⟨_, _, hread, .nothing, h⟩

/-- Every command is such a step. -/
theorem exec_steps {c : Instr} {s t : State} (h : exec c s = .next t) : s.Steps t := by
  cases c with
  | reset => exact State.steps_of_done h (State.Taken.reset.steps (.refl _))
  | resetRelease straps =>
    refine State.steps_of_done h (State.Aside.steps ?_)
    unfold State.releaseReset
    split <;> constructor <;> rfl
  | frameExpiry => exact State.steps_of_done h (State.steps_unlessReset .expiry)
  | cueFiring => exact State.steps_of_done h (State.steps_unlessReset .cues)
  | intakeTimeout m => exact State.steps_of_done h (State.steps_unlessReset (.meterTimeout m))
  | moveTimeout i | parkTimeout i | homeLimitExceeded i | holdExpiry i =>
    exact State.steps_of_done h (State.steps_unlessReset (.slotTimeout i _))
  | releasingEnd f => exact State.steps_of_done h (State.steps_unlessReset (.guardEnd f))
  | quietIntervalEnd => exact State.steps_of_done h (State.steps_unlessReset .quietEnd)
  | missedFrame b => exact State.steps_of_done h (State.steps_unlessReset (.window b))
  | senseFrame b bytes => exact State.steps_of_done h (State.steps_unlessReset (.frame b bytes))
  | slotGrant => exact State.steps_of_done h (State.steps_unlessReset .grant)
  | preEmption => exact State.steps_of_done h (State.steps_unlessReset .preemption)
  | targetWrite f w => exact State.steps_of_done h (s.writeTarget_steps f w)
  | controlWrite f w => exact State.steps_of_done h (s.writeControl_steps f w)
  | setAlias f w => exact State.steps_of_done h (s.writeAlias_steps .set f w)
  | clearAlias f w => exact State.steps_of_done h (s.writeAlias_steps .clear f w)
  | toggleAlias f w => exact State.steps_of_done h (s.writeAlias_steps .toggle f w)
  | levelIntake m w => exact State.steps_of_done h (s.writeIntake_steps m w)
  | surfaceTimeSet w => exact State.steps_of_done h (s.writeSurface_steps w)
  | slotLimitWrite w => exact State.steps_of_done h (s.writeSlotLimit_steps w)
  | quietWrite w => exact State.steps_of_done h (s.writeQuiet_steps w)
  | setupWrite sw w => exact State.steps_of_done h (s.writeSetup_steps sw w)
  | stagingWrite st w => exact State.steps_of_done h (s.writeStaging_steps st w)
  | wordWrite addr w => exact State.steps_of_done h (s.writeAt_steps addr w)
  | stop u | resume u | restart u | home f u | release f u | cueArm u | cueCancel u | commit u | undo u | taperCommit u
  | scaleCommit u | unknownCommand cw code u => exact State.steps_of_done h (State.pulse_steps rfl)
  | acknowledge n u => exact State.steps_of_done h (State.pulse_steps (s.takeCommand_acknowledge n u))
  | presentGainRead f =>
    exact State.steps_of_done h (State.readWord_steps fun t => .inr (by constructor <;> rfl))
  | portARead =>
    refine State.steps_of_done h (State.readWord_steps fun t => .inr ?_)
    unfold State.openHead
    split <;> constructor <;> rfl
  | portBRead =>
    refine State.steps_of_done h (State.readWord_steps fun t => .inr ?_)
    unfold State.takeHead
    split
    · exact .refl t
    · split <;> constructor <;> rfl
  | movedWordRead half => exact State.steps_of_done h (State.readWord_steps fun t => .inl (.moved half))
  | readout2Read m => exact State.steps_of_done h (State.readWord_steps fun t => .inl (.overRead m))

/-- Every step of the machine is such a step. -/
theorem step_steps {s t : State} (h : step s = .next t) : s.Steps t := by
  unfold step at h
  split at h
  · cases h; exact (State.Aside.refl s).steps
  · obtain ⟨a, u, h1, h2, h3⟩ := exec_steps h
    exact ⟨a, u, ⟨h1.law, h1.faders, h1.queue, h1.table, h1.setup, h1.cues, h1.engine, h1.bays, h1.levels, h1.threshold,
      h1.quiet⟩, h2, h3⟩

/-! ### The invariants of every fader are kept by every step -/

theorem State.Aside.keeps {s t : State} (h : s.Aside t) (hs : s.Sound) : s.Keeps t :=
  hs.keeps_of_same (.of_eq h.law h.setup) h.faders (by rw [h.queue]) (by rw [h.table]) h.bays

theorem State.takeMoved_keeps {s : State} (hs : s.Sound) (h : MovedHalf) : s.Keeps (s.takeMoved h) :=
  hs.keeps_of_faders (fun _ _ => by split <;> constructor <;> rfl) (fun _ _ => by split <;> rfl)
    (fun _ _ => by split <;> rfl) (fun _ _ => by split <;> rfl)

theorem State.Taken.keeps {s t : State} (h : s.Taken t) (hs : s.Sound) : s.Keeps t := by
  cases h with
  | nothing => exact hs.keeps
  | reset => exact s.assertReset_keeps
  | expiry => exact State.expire_keeps hs
  | cues => exact State.cueEvent_keeps hs
  | meterTimeout m =>
    unfold State.meterEvent
    split
    · have h1 := State.meterExpiry_keeps hs m
      exact h1.trans (h1.sound.keeps_of_same (.of_eq rfl rfl) rfl rfl rfl rfl)
    · exact hs.keeps
  | slotTimeout i due => exact State.slotEvent_keeps hs i due
  | guardEnd f => exact (State.guardEvent_acts hs f).keeps
  | quietEnd =>
    unfold State.quietEvent
    split
    · exact hs.keeps_of_same (.of_eq rfl rfl) rfl rfl rfl rfl
    · exact hs.keeps
  | window b =>
    unfold State.windowEvent
    split
    · exact State.closeWindow_keeps hs b
    · exact hs.keeps
  | frame b bytes => exact State.receiveFrame_keeps hs b bytes
  | grant =>
    cases h : s.grantStep with
    | none => exact hs.keeps
    | some t => exact (State.grantStep_acts hs h).keeps
  | preemption =>
    cases h : s.preemptStep with
    | none => exact hs.keeps
    | some t => exact (State.preemptStep_acts hs h).keeps
  | request r => exact (State.accept_acts hs r).keeps
  | control f c => exact State.takeControl_keeps hs f c
  | intake m v =>
    unfold State.intake
    dsimp only
    split <;> exact hs.keeps_of_same (.of_eq rfl rfl) rfl rfl rfl rfl
  | surface v => exact State.cues_keeps hs _
  | slotLimit n =>
    have h1 : s.Keeps { s with table := { s.table with limit := clampNat 1 16 n } } :=
      hs.keeps_of_same (.of_eq rfl rfl) rfl rfl rfl rfl
    exact h1.trans (State.arbitrate_acts h1.sound).keeps
  | quiet n => exact hs.keeps_of_same (.of_eq rfl rfl) rfl rfl rfl rfl
  | setup w v => exact State.takeSetup_keeps hs w v
  | command cw code u => exact State.takeCommand_keeps hs cw code u
  | moved h => exact State.takeMoved_keeps hs h
  | overRead m => exact hs.keeps_of_same (.of_eq rfl rfl) rfl rfl rfl rfl

theorem State.Steps.keeps {s t : State} (h : s.Steps t) (hs : s.Sound) : s.Keeps t := by
  obtain ⟨a, u, h1, h2, h3⟩ := h
  have k1 := h1.keeps hs
  have k2 := k1.trans (h2.keeps k1.sound)
  exact k2.trans (h3.keeps k2.sound)

/-- Settles O55: the first three invariants say of each fader that it is sound, the fourth is about its pending target, and every step keeps
both. -/
theorem ownershipOfFadersIsKept : Obligations.OwnershipOfFadersIsKept := by
  unfold Obligations.OwnershipOfFadersIsKept
  intro s t hown habs hheld hpend hstep
  have hk := (step_steps hstep).keeps (State.soundAt_of_owned hown habs hheld)
  exact ⟨hk.sound.owned, hk.sound.absentOk, hk.sound.heldFree, fun f => (hk f).pended (hpend f)⟩

theorem State.positionsOk.placedAt {s : State} (h : s.positionsOk) (hset : s.settingsOk) (hlaw : s.law.ok) (f : FaderId) :
    s.PlacedAt f where
  taper := hlaw.1
  span := by
    obtain ⟨-, -, -, -, -, -, -, -, -, -, -, hspan, -⟩ := hset.motion
    exact le_trans (by decide) hspan
  cal := h.calibrations f
  slots i sl hi := by
    obtain ⟨hsl, rfl⟩ := State.slotsOf_eq_some.mp hi
    have := h.setpoints i
    rwa [hsl, Option.all_some] at this
  inRange := h.positions f

theorem State.positionsOk_of_placedAt {s : State} (h : ∀ f, s.PlacedAt f) : s.positionsOk where
  calibrations f := (h f).cal
  setpoints i := by
    cases hi : s.slot i with
    | none => rfl
    | some sl => exact (h sl.fader).setpointOk hi
  positions f := (h f).inRange

/-- Settles O58: every step keeps each fader placed and tracked. -/
theorem positionsStayCalibrated : Obligations.PositionsStayCalibrated := by
  unfold Obligations.PositionsStayCalibrated
  intro s t hown habs hheld hpend hset hlaw hpos hstep
  have hk := (step_steps hstep).keeps (State.soundAt_of_owned hown habs hheld)
  exact ⟨State.positionsOk_of_placedAt fun f => (hk f).placed (hpos.placedAt hset hlaw f), fun htr f => (hk f).tracked (htr f)⟩

end Sys2Proof.Machine
end

section
/-! The setup of every fader: no action on faders changes it (R56, R60), whatever the state. One lemma per operation, each from
those of the operations it calls. -/

namespace Sys2Proof.Machine

/-- The setup of each fader. -/
def State.setups (s : State) : FaderId → FaderSetup :=
  fun f => (s.fader f).setup

/-! ### Record updates -/

@[simp] theorem State.modFader_setups {s : State} {f : FaderId} {g : Fader → Fader} (h : ∀ x, (g x).setup = x.setup) :
    (s.modFader f g).setups = s.setups := by
  funext q
  unfold State.setups
  rw [State.modFader_fader]
  split
  · next e => rw [← e, h]
  · rfl

theorem State.mapFaders_setups {s : State} {g : FaderId → Fader → Fader} (h : ∀ f x, (g f x).setup = x.setup) :
    (s.mapFaders g).setups = s.setups := by
  funext q
  unfold State.setups
  rw [State.mapFaders_fader, h]

theorem State.setups_of_faders {s t : State} (h : t.faders = s.faders) : t.setups = s.setups := by
  funext q
  simp only [State.setups, State.fader, h]

@[simp] theorem State.setSlot_setups (s : State) (i : SlotId) (o : Option Slot) : (s.setSlot i o).setups = s.setups := rfl
@[simp] theorem State.raise_setups (s : State) (e : EventSource) : (s.raise e).setups = s.setups := rfl
@[simp] theorem State.refuse_setups (s : State) (r : RefusalReason) : (s.refuse r).setups = s.setups := rfl
@[simp] theorem State.complete_setups (s : State) (f : FaderId) (o : EndOutcome) (k : SkipCause) (c : ReqClass) (t : Tag)
    (m : Marks) : (s.complete f o k c t m).setups = s.setups := rfl
@[simp] theorem State.removeEntry_setups (s : State) (f : FaderId) : (s.removeEntry f).setups = s.setups := rfl
@[simp] theorem State.replaceEntry_setups (s : State) (e : Entry) : (s.replaceEntry e).setups = s.setups := rfl
@[simp] theorem State.modBay_setups (s : State) (b : BayId) (g : Bay → Bay) : (s.modBay b g).setups = s.setups := rfl
@[simp] theorem State.mapSlots_setups (s : State) (g : Slot → Slot) : (s.mapSlots g).setups = s.setups :=
  State.setups_of_faders (by simp)
@[simp] theorem State.joinQueue_setups (s : State) (f : FaderId) (k : EntryKind) (c : ReqClass) (t : Tag) (r : Nat)
    (m : Marks) : (s.joinQueue f k c t r m).setups = s.setups :=
  State.modFader_setups (s := s) (g := fun x => { x with motion := .waiting }) fun _ => rfl

theorem State.foldl_setups {α : Type} {act : State → α → State} (h : ∀ t a, (act t a).setups = t.setups) (l : List α)
    (s : State) : (l.foldl act s).setups = s.setups := by
  induction l generalizing s with
  | nil => rfl
  | cons a rest ih => exact (ih _).trans (h s a)

theorem State.forFitted_setups {act : State → Position → State} (h : ∀ t p, (act t p).setups = t.setups) (s : State)
    (b : BayId) : (s.forFitted b act).setups = s.setups :=
  State.foldl_setups (fun t p => by split <;> [exact h t p; rfl]) _ s

/-! ### Ends of service and the arbiter -/

@[simp] theorem State.refreshPerMille_setups (s : State) (f : FaderId) : (s.refreshPerMille f).setups = s.setups := by
  unfold State.refreshPerMille; simp

@[simp] theorem State.targetFromPresent_setups (s : State) (f : FaderId) : (s.targetFromPresent f).setups = s.setups := by
  unfold State.targetFromPresent; simp

@[simp] theorem State.leaveQueue_setups (s : State) (f : FaderId) (o : EndOutcome) :
    (s.leaveQueue f o).setups = s.setups := by
  unfold State.leaveQueue; split <;> simp

@[simp] theorem State.endMove_setups (s : State) (i : SlotId) (sl : Slot) (o : EndOutcome) :
    (s.endMove i sl o).setups = s.setups := by
  unfold State.endMove; simp

@[simp] theorem State.endHold_setups (s : State) (i : SlotId) (sl : Slot) : (s.endHold i sl).setups = s.setups := by
  unfold State.endHold; simp

@[simp] theorem State.endHoldWith_setups (s : State) (i : SlotId) (sl : Slot) (o : EndOutcome) :
    (s.endHoldWith i sl o).setups = s.setups := by
  unfold State.endHoldWith; simp

@[simp] theorem State.dropHoming_setups (s : State) (i : SlotId) (sl : Slot) : (s.dropHoming i sl).setups = s.setups := by
  unfold State.dropHoming; split <;> simp

@[simp] theorem State.endHoming_setups (s : State) (i : SlotId) (sl : Slot) (o : EndOutcome) :
    (s.endHoming i sl o).setups = s.setups := by
  unfold State.endHoming; simp

@[simp] theorem State.endUse_setups (s : State) (i : SlotId) (sl : Slot) (o : EndOutcome) :
    (s.endUse i sl o).setups = s.setups := by
  unfold State.endUse; split <;> simp

@[simp] theorem State.endService_setups (s : State) (f : FaderId) (o : EndOutcome) :
    (s.endService f o).setups = s.setups := by
  unfold State.endService; split <;> [simp; (split <;> simp); (split <;> simp); (split <;> simp); rfl; rfl; rfl; rfl]

@[simp] theorem State.grantTo_setups (s : State) (i : SlotId) (e : Entry) : (s.grantTo i e).setups = s.setups := by
  unfold State.grantTo; split <;> simp

theorem State.grantStep_setups {s t : State} (h : s.grantStep = some t) : t.setups = s.setups := by
  obtain ⟨e, rest, i, -, -, -, -, rfl⟩ := MotionFrame.grantStep_inv h
  simp

theorem State.preemptStep_setups {s t : State} (h : s.preemptStep = some t) : t.setups = s.setups := by
  obtain ⟨e, rest, i, sl, -, -, -, -, -, rfl⟩ := MotionFrame.preemptStep_inv h
  simp

theorem State.arbiterLoop_setups (n : Nat) (s : State) : (s.arbiterLoop n).setups = s.setups := by
  induction n generalizing s with
  | zero => rfl
  | succ k ih =>
    unfold State.arbiterLoop
    split
    · rfl
    · next t h =>
      rw [ih]
      rcases MotionFrame.arbiterStep_inv h with h | ⟨-, h⟩
      · exact State.grantStep_setups h
      · exact State.preemptStep_setups h

@[simp] theorem State.arbitrate_setups (s : State) : s.arbitrate.setups = s.setups :=
  State.arbiterLoop_setups ..

@[simp] theorem State.beginHold_setups (s : State) (i : SlotId) (sl : Slot) : (s.beginHold i sl).setups = s.setups := by
  unfold State.beginHold
  dsimp only
  split
  · simp
  · exact State.modFader_setups (g := fun x => { x with motion := .holding }) fun _ => rfl

/-! ### Requests -/

@[simp] theorem State.recordConversion_setups (s : State) (f : FaderId) (c : Conversion) :
    (s.recordConversion f c).setups = s.setups := by
  unfold State.recordConversion; simp

@[simp] theorem State.takeOn_setups (s : State) (f : FaderId) (c : ReqClass) (t : Tag) (b : Bool) :
    (s.takeOn f c t b).setups = s.setups := by
  unfold State.takeOn; simp

@[simp] theorem State.recordTarget_setups (s : State) (f : FaderId) (c : Conversion) :
    (s.recordTarget f c).setups = s.setups := by
  unfold State.recordTarget; simp

@[simp] theorem State.acceptHeld_setups (s : State) (r : Request) (c : Conversion) :
    (s.acceptHeld r c).setups = s.setups := by
  unfold State.acceptHeld; split <;> [simp; simp; (split <;> simp)]

@[simp] theorem State.acceptIdle_setups (s : State) (r : Request) : (s.acceptIdle r).setups = s.setups := by
  unfold State.acceptIdle; dsimp only; split <;> simp

@[simp] theorem State.acceptWaiting_setups (s : State) (r : Request) : (s.acceptWaiting r).setups = s.setups := by
  unfold State.acceptWaiting; split <;> simp

@[simp] theorem State.acceptDriven_setups (s : State) (r : Request) : (s.acceptDriven r).setups = s.setups := by
  unfold State.acceptDriven; split <;> simp

@[simp] theorem State.acceptHoming_setups (s : State) (r : Request) : (s.acceptHoming r).setups = s.setups := by
  unfold State.acceptHoming; split <;> simp

@[simp] theorem State.acceptMotion_setups (s : State) (r : Request) : (s.acceptMotion r).setups = s.setups := by
  unfold State.acceptMotion; split <;> simp

@[simp] theorem State.accept_setups (s : State) (r : Request) : (s.accept r).setups = s.setups := by
  unfold State.accept
  dsimp only
  split
  · simp
  · split
    · simp
    · split <;> simp

@[simp] theorem State.issueAll_setups (s : State) (l : List PriorTarget) (tag : Tag) (ramp : Nat) (undo : Bool) :
    (s.issueAll l tag ramp undo).setups = s.setups := by
  exact State.foldl_setups (fun _ _ => State.accept_setups ..) l s

/-! ### The servo, homing and what a frame expiry ends -/

@[simp] theorem State.arrive_setups (s : State) (i : SlotId) (sl : Slot) : (s.arrive i sl).setups = s.setups := by
  unfold State.arrive; simp

@[simp] theorem State.homed_setups (s : State) (i : SlotId) (sl : Slot) : (s.homed i sl).setups = s.setups := by
  unfold State.homed; simp

@[simp] theorem State.latchFault_setups (s : State) (f : FaderId) (c : FaultCause) :
    (s.latchFault f c).setups = s.setups := by
  unfold State.latchFault; simp

@[simp] theorem State.stallMove_setups (s : State) (i : SlotId) (sl : Slot) : (s.stallMove i sl).setups = s.setups := by
  unfold State.stallMove; simp

@[simp] theorem State.stallPark_setups (s : State) (i : SlotId) (sl : Slot) : (s.stallPark i sl).setups = s.setups := by
  unfold State.stallPark; simp

@[simp] theorem State.serveMove_setups (s : State) (i : SlotId) (sl : Slot) : (s.serveMove i sl).setups = s.setups := by
  unfold State.serveMove
  dsimp only
  split
  · simp
  · split
    · split <;> simp
    · simp

@[simp] theorem State.servePark_setups (s : State) (i : SlotId) (sl : Slot) : (s.servePark i sl).setups = s.setups := by
  unfold State.servePark
  dsimp only
  split
  · simp
  · split
    · split <;> simp
    · simp

@[simp] theorem State.serveHold_setups (s : State) (i : SlotId) (sl : Slot) : (s.serveHold i sl).setups = s.setups := by
  unfold State.serveHold; simp

@[simp] theorem State.failHoming_setups (s : State) (i : SlotId) (sl : Slot) (c : FaultCause) :
    (s.failHoming i sl c).setups = s.setups := by
  unfold State.failHoming; simp

@[simp] theorem State.serveDown_setups (s : State) (i : SlotId) (sl : Slot) : (s.serveDown i sl).setups = s.setups := by
  unfold State.serveDown; dsimp only; split <;> simp

@[simp] theorem State.beginPark_setups (s : State) (i : SlotId) (sl : Slot) (low high : Nat) :
    (s.beginPark i sl low high).setups = s.setups := by
  unfold State.beginPark; simp

@[simp] theorem State.serveUp_setups (s : State) (i : SlotId) (sl : Slot) : (s.serveUp i sl).setups = s.setups := by
  unfold State.serveUp
  dsimp only
  split
  · split <;> simp
  all_goals simp

@[simp] theorem State.serveSlot_setups (s : State) (i : SlotId) (sl : Slot) : (s.serveSlot i sl).setups = s.setups := by
  unfold State.serveSlot
  split
  · simp
  · simp
  · split <;> simp

@[simp] theorem State.serveFader_setups (s : State) (f : FaderId) (b : Bool) : (s.serveFader f b).setups = s.setups := by
  unfold State.serveFader
  split
  · split <;> simp
  · rfl

@[simp] theorem State.timeoutMove_setups (s : State) (i : SlotId) (sl : Slot) : (s.timeoutMove i sl).setups = s.setups := by
  unfold State.timeoutMove; simp

@[simp] theorem State.timeoutPark_setups (s : State) (i : SlotId) (sl : Slot) : (s.timeoutPark i sl).setups = s.setups := by
  unfold State.timeoutPark; simp

@[simp] theorem State.expireHold_setups (s : State) (i : SlotId) (sl : Slot) : (s.expireHold i sl).setups = s.setups := by
  unfold State.expireHold; simp

@[simp] theorem State.judgeSlot_setups (s : State) (i : SlotId) : (s.judgeSlot i).setups = s.setups := by
  unfold State.judgeSlot
  split
  · rfl
  · split
    · simp
    · split
      · simp
      · split
        · simp
        · split <;> simp

/-! ### Touch, positions and bays -/

@[simp] theorem State.abandon_setups (s : State) (f : FaderId) : (s.abandon f).setups = s.setups := by
  unfold State.abandon
  split
  · simp
  iterate 3
    · split
      · rfl
      · split <;> simp
  all_goals rfl

@[simp] theorem State.enterTouched_setups (s : State) (f : FaderId) : (s.enterTouched f).setups = s.setups := by
  unfold State.enterTouched; simp

@[simp] theorem State.endReleasing_setups (s : State) (f : FaderId) : (s.endReleasing f).setups = s.setups := by
  unfold State.endReleasing; dsimp only; split <;> simp

@[simp] theorem State.enterReleasing_setups (s : State) (f : FaderId) : (s.enterReleasing f).setups = s.setups := by
  unfold State.enterReleasing; dsimp only; split <;> simp

@[simp] theorem State.touchFrame_setups (s : State) (f : FaderId) (bit : Bool) : (s.touchFrame f bit).setups = s.setups := by
  unfold State.touchFrame
  dsimp only
  split
  · split
    · split <;> simp
    · simp
  · split
    · simp
    · split <;> simp
  · split <;> simp

@[simp] theorem State.judgeGuard_setups (s : State) (f : FaderId) : (s.judgeGuard f).setups = s.setups := by
  unfold State.judgeGuard; dsimp only; split <;> simp

@[simp] theorem State.guardEvent_setups (s : State) (f : FaderId) : (s.guardEvent f).setups = s.setups := by
  unfold State.guardEvent; dsimp only; split <;> simp

@[simp] theorem State.movedTest_setups (s : State) (f : FaderId) (b : Bool) : (s.movedTest f b).setups = s.setups := by
  unfold State.movedTest
  dsimp only
  split
  · simp
  · split <;> simp

@[simp] theorem State.followRaw_setups (s : State) (f : FaderId) (raw : Nat) : (s.followRaw f raw).setups = s.setups := by
  unfold State.followRaw; split <;> simp

@[simp] theorem State.takePosition_setups (s : State) (f : FaderId) (raw : Nat) :
    (s.takePosition f raw).setups = s.setups := by
  unfold State.takePosition; simp

theorem Fader.leave_setup (x : Fader) : x.leave.setup = x.setup := rfl

@[simp] theorem State.loseFader_setups (s : State) (f : FaderId) : (s.loseFader f).setups = s.setups := by
  exact (State.modFader_setups Fader.leave_setup).trans (State.endService_setups ..)

@[simp] theorem State.enterFader_setups (s : State) (f : FaderId) : (s.enterFader f).setups = s.setups := by
  unfold State.enterFader; simp

@[simp] theorem State.fitPosition_setups (s : State) (b : BayId) (was now : BitVec 8) (p : Position) :
    (s.fitPosition b was now p).setups = s.setups := by
  unfold State.fitPosition; split <;> simp

@[simp] theorem State.takeFitted_setups (s : State) (b : BayId) (bytes : List Byte) :
    (s.takeFitted b bytes).setups = s.setups := by
  unfold State.takeFitted
  simp only [State.arbitrate_setups, State.modBay_setups]
  exact State.foldl_setups (fun _ _ => by simp) _ s

@[simp] theorem State.takeSupply_setups (s : State) (b : BayId) (bytes : List Byte) :
    (s.takeSupply b bytes).setups = s.setups := by
  unfold State.takeSupply
  dsimp only
  split
  · simp
  · split
    · simp
    · rw [State.arbitrate_setups, State.forFitted_setups fun _ _ => by simp]
      simp

@[simp] theorem State.takeFrame_setups (s : State) (arrival : State) (b : BayId) (bytes : List Byte) :
    (s.takeFrame arrival b bytes).setups = s.setups := by
  unfold State.takeFrame
  simp only
  rw [State.forFitted_setups fun _ _ => by simp, State.forFitted_setups fun _ _ => by simp,
    State.forFitted_setups fun _ _ => by simp, State.forFitted_setups fun _ _ => by simp]
  simp

/-! ### Cues and commands -/

@[simp] theorem State.fireCue_setups (s : State) (c : Cue) (now : BitVec 32) : (s.fireCue c now).setups = s.setups := by
  unfold State.fireCue
  dsimp only
  split
  · simp
  · split
    · simp
    · split
      · simp
      · rw [State.accept_setups]
        split <;> rfl

theorem State.fireFrom_setups (s : State) (now : BitVec 32) (c : Cue) : (s.fireFrom now c).setups = s.setups :=
  (State.fireCue_setups ..).trans rfl

@[simp] theorem State.homeTakeover_setups (s : State) (i : SlotId) (sl : Slot) :
    (s.homeTakeover i sl).setups = s.setups := by
  unfold State.homeTakeover
  simp only [State.modFader_setups, implies_true, State.setSlot_setups]
  split <;> rfl

@[simp] theorem State.homeWaiting_setups (s : State) (f : FaderId) : (s.homeWaiting f).setups = s.setups := by
  unfold State.homeWaiting; split <;> simp

@[simp] theorem State.homeCommand_setups (s : State) (f : FaderId) : (s.homeCommand f).setups = s.setups := by
  unfold State.homeCommand
  dsimp only
  split
  · rfl
  split
  · rfl
  split
  · rfl
  split
  · rfl
  split
  iterate 4 simp
  iterate 2 split <;> simp
  all_goals rfl

@[simp] theorem State.releaseCommand_setups (s : State) (f : FaderId) : (s.releaseCommand f).setups = s.setups := by
  unfold State.releaseCommand
  dsimp only
  split
  · simp
  split
  · simp
  iterate 2
    · split
      · rfl
      · split <;> simp
  all_goals rfl

@[simp] theorem State.takeControl_setups (s : State) (f : FaderId) (c : ControlFields) :
    (s.takeControl f c).setups = s.setups := by
  unfold State.takeControl; dsimp only; split <;> simp

theorem State.stopMotion_setups (s : State) : s.stopMotion.setups = s.setups := by
  have hslot : ∀ (t : State) i, (t.stopSlot i).setups = t.setups := fun t i => by
    unfold State.stopSlot; split <;> simp
  exact (State.foldl_setups (fun _ _ => by simp) _ _).trans (State.foldl_setups hslot _ s)

theorem State.restartCommand_setups (s : State) : s.restartCommand.setups = s.setups := by
  funext f
  unfold State.setups
  rw [State.restartCommand_fader]
  rfl

end Sys2Proof.Machine
end

section
/-! Tables, settings, meters and bay records stay within their ranges (R10, R42, R56, R60, R76, R96, R114, R121, R124, R132,
R133, R136, R147, R149): each operation's part, and O57. -/

namespace Sys2Proof.Machine

/-- From `s` to `t` each range of O57 is kept, by itself. -/
structure State.RangesKept (s t : State) : Prop where
  law : s.law.ok → t.law.ok
  scale : scaleInForce s.engine.scale → scaleInForce t.engine.scale
  settings : s.settingsOk → t.settingsOk
  meters : (∀ m, (s.meter m).setup.inRange ∧ (s.meter m).ok) → ∀ m, (t.meter m).setup.inRange ∧ (t.meter m).ok
  bays : (∀ b, (s.bay b).ok) → ∀ b, (t.bay b).ok

theorem State.RangesKept.refl (s : State) : s.RangesKept s :=
  ⟨id, id, id, id, id⟩

theorem State.RangesKept.trans {s t u : State} (h : s.RangesKept t) (k : t.RangesKept u) : s.RangesKept u :=
  ⟨k.law ∘ h.law, k.scale ∘ h.scale, k.settings ∘ h.settings, k.meters ∘ h.meters, k.bays ∘ h.bays⟩

theorem State.RangesKept.foldl {α : Type} {act : State → α → State} (h : ∀ (t : State) a, t.RangesKept (act t a)) (l : List α)
    (s : State) : s.RangesKept (l.foldl act s) := by
  induction l generalizing s with
  | nil => exact .refl s
  | cons a rest ih => exact (h s a).trans (ih _)

/-- The settings of `t` are those of `s`. -/
structure State.SameSettings (s t : State) : Prop where
  setups : t.setups = s.setups
  law : t.law = s.law
  setup : t.setup = s.setup
  limit : t.table.limit = s.table.limit
  lateLimit : t.cues.lateLimit = s.cues.lateLimit
  levels : t.attn.levels = s.attn.levels
  threshold : t.attn.threshold = s.attn.threshold

/-- With the settings of faders and blocks kept, what is left to say is of the meters, the quiet interval and the bays. -/
theorem State.SameSettings.ranges {s t : State} (h : s.SameSettings t) (hscale : t.engine.scale = s.engine.scale)
    (hset : (∀ m, (s.meter m).setup.inRange) → ∀ m, (t.meter m).setup.inRange)
    (hmeters : (∀ m, (s.meter m).setup.inRange ∧ (s.meter m).ok) → ∀ m, (t.meter m).ok)
    (hquiet : s.attn.quiet ≤ 255 → t.attn.quiet ≤ 255) (hbays : (∀ b, (s.bay b).ok) → ∀ b, (t.bay b).ok) :
    s.RangesKept t where
  law := by rw [h.law]; exact id
  scale := by rw [hscale]; exact id
  settings k := {
    faders := fun f => by rw [show (t.fader f).setup = (s.fader f).setup from congrFun h.setups f]; exact k.faders f
    meters := hset k.meters
    motion := h.setup ▸ k.motion
    slotLimit := h.limit ▸ k.slotLimit
    cut := h.law ▸ k.cut
    lateLimit := h.lateLimit ▸ k.lateLimit
    levels := h.levels ▸ k.levels
    threshold := h.threshold ▸ k.threshold
    quiet := hquiet k.quiet }
  meters k m := ⟨hset (fun m => (k m).1) m, hmeters k m⟩
  bays := hbays

/-- An action on faders keeps every range. -/
theorem MotionFrame.ranges {s t : State} (h : MotionFrame s t) (hs : t.setups = s.setups) : s.RangesKept t := by
  have hm : t.meter = s.meter := by funext m; simp only [State.meter, h.engine]
  have hb : t.bay = s.bay := by funext b; simp only [State.bay, h.bays]
  exact State.SameSettings.ranges ⟨hs, h.law, h.setup, h.limit, by rw [h.cues], h.levels, h.threshold⟩ (by rw [h.engine])
    (by rw [hm]; exact id) (by rw [hm]; exact fun k m => (k m).2) (by rw [h.quiet]; exact id) (by rw [hb]; exact id)

/-- A change of nothing that has a range. -/
theorem State.ranges_of_same {s t : State} (hs : t.setups = s.setups) (hlaw : t.law = s.law) (hset : t.setup = s.setup)
    (hlim : t.table.limit = s.table.limit) (hlate : t.cues.lateLimit = s.cues.lateLimit) (he : t.engine = s.engine)
    (hb : t.bays = s.bays) (hlev : t.attn.levels = s.attn.levels) (hth : t.attn.threshold = s.attn.threshold)
    (hq : t.attn.quiet = s.attn.quiet) : s.RangesKept t := by
  have hm : t.meter = s.meter := by funext m; simp only [State.meter, he]
  have hb' : t.bay = s.bay := by funext b; simp only [State.bay, hb]
  exact State.SameSettings.ranges ⟨hs, hlaw, hset, hlim, hlate, hlev, hth⟩ (by rw [he])
    (by rw [hm]; exact id) (by rw [hm]; exact fun k m => (k m).2) (by rw [hq]; exact id) (by rw [hb']; exact id)

theorem State.Aside.ranges {s t : State} (h : s.Aside t) : s.RangesKept t :=
  State.ranges_of_same (State.setups_of_faders h.faders) h.law h.setup (by rw [h.table]) (by rw [h.cues]) h.engine h.bays
    h.levels h.threshold h.quiet

/-! ### Meters -/

theorem ceilDiv_bounds {d a : Int} (hd : 0 ≤ d) (ha : 1 ≤ a ∧ a ≤ 16) : 0 ≤ ceilDiv (d * a) 16 ∧ ceilDiv (d * a) 16 ≤ d := by
  have h1 : 0 ≤ d * a := mul_nonneg hd (by omega)
  have h2 : d * a ≤ d * 16 := mul_le_mul_of_nonneg_left ha.2 hd
  unfold ceilDiv
  omega

theorem roundHalfAway_bounds {d a : Int} (ha : 1 ≤ a ∧ a ≤ 16) :
    min 0 d ≤ roundHalfAway (d * a) 16 ∧ roundHalfAway (d * a) 16 ≤ max 0 d := by
  rcases le_total 0 d with hd | hd
  · have h1 : 0 ≤ d * a := mul_nonneg hd (by omega)
    have h2 : d * a ≤ d * 16 := mul_le_mul_of_nonneg_left ha.2 hd
    unfold roundHalfAway
    split <;> omega
  · have h1 : d * a ≤ 0 := mul_nonpos_of_nonpos_of_nonneg hd (by omega)
    have h2 : d * 16 ≤ d * a := mul_le_mul_of_nonpos_left ha.2 hd
    unfold roundHalfAway
    split <;> omega

/-- The level that an intake leaves stands between the level before and the value taken (R116, R117). -/
theorem Meter.levelIntake_bounds {m : Meter} (ha : 1 ≤ m.setup.attack ∧ m.setup.attack ≤ 16) (x : Int) :
    min m.level x ≤ (m.levelIntake x).level ∧ (m.levelIntake x).level ≤ max m.level x := by
  have ha' : (1 : Int) ≤ m.setup.attack ∧ (m.setup.attack : Int) ≤ 16 := by omega
  unfold Meter.levelIntake
  split
  · split
    · have := ceilDiv_bounds (d := x - m.level) (by omega) ha'
      dsimp only; omega
    · omega
  · have := roundHalfAway_bounds (d := x - m.level) ha'
    dsimp only; omega

theorem Meter.levelIntake_keeps (m : Meter) (x : Int) :
    (m.levelIntake x).hold = m.hold ∧ (m.levelIntake x).setup = m.setup := by
  unfold Meter.levelIntake
  split
  · split <;> exact ⟨rfl, rfl⟩
  · exact ⟨rfl, rfl⟩

theorem Meter.intake_setup (m : Meter) (x : Int) : (m.intake x).setup = m.setup := by
  have h : (m.leaveStale.holdIntake x).setup = m.setup := by unfold Meter.holdIntake; split <;> rfl
  exact (Meter.levelIntake_keeps _ x).2.trans h

theorem Meter.intake_ok {m : Meter} (h : m.ok) {x : Int} (hx : Config.levelMin ≤ x ∧ x ≤ Config.levelMax) :
    (m.intake x).ok := by
  obtain ⟨h1, h2, h3, -, -, ha⟩ := h
  have hhold : (m.leaveStale.holdIntake x).setup = m.setup ∧ (m.leaveStale.holdIntake x).level = m.level ∧
      (m.leaveStale.holdIntake x).hold = max m.hold x := by
    unfold Meter.holdIntake Meter.leaveStale
    dsimp only
    split
    · exact ⟨rfl, rfl, (max_eq_right ‹_›).symm⟩
    · exact ⟨rfl, rfl, (max_eq_left (not_le.mp ‹_›).le).symm⟩
  obtain ⟨k1, k2, k3⟩ := hhold
  have hb := Meter.levelIntake_bounds (m := m.leaveStale.holdIntake x) (k1 ▸ ha) x
  obtain ⟨j1, j2⟩ := Meter.levelIntake_keeps (m.leaveStale.holdIntake x) x
  rw [k2] at hb
  have hs := m.intake_setup x
  refine ⟨?_, ?_, ?_, hx.1, hx.2, hs ▸ ha.1, hs ▸ ha.2⟩
  · exact le_trans (le_min h1 hx.1) hb.1
  · show (Meter.levelIntake _ x).level ≤ (Meter.levelIntake _ x).hold
    rw [j1, k3]
    exact hb.2.trans (max_le_max_right x h2)
  · show (Meter.levelIntake _ x).hold ≤ _
    rw [j1, k3]
    exact max_le h3 hx.2

theorem Meter.expiry_setup (m : Meter) : m.expiry.setup = m.setup := by
  have h1 : m.decayLevel.setup = m.setup := by unfold Meter.decayLevel; split <;> rfl
  have h2 : ∀ x : Meter, x.decayHold.setup = x.setup := fun x => by unfold Meter.decayHold; split <;> rfl
  have h3 : ∀ x : Meter, x.timeIntake.setup = x.setup := fun x => by
    unfold Meter.timeIntake
    split
    · split <;> rfl
    · rfl
  rw [Meter.expiry, h3, h2, h1]

theorem Meter.decayLevel_ok {m : Meter} (h : m.ok) : m.decayLevel.ok := by
  obtain ⟨h1, h2, h3, h4⟩ := h
  unfold Meter.decayLevel
  split
  · exact ⟨le_max_left _ _, max_le (h1.trans h2) (show _ ≤ m.hold by omega), h3, h4⟩
  · exact ⟨h1, h2, h3, h4⟩

theorem Meter.decayHold_ok {m : Meter} (h : m.ok) : m.decayHold.ok := by
  obtain ⟨h1, h2, h3, h4⟩ := h
  unfold Meter.decayHold
  split
  · exact ⟨h1, h2, h3, h4⟩
  · exact ⟨h1, le_max_left _ _, max_le (h2.trans h3) (by omega), h4⟩

theorem Meter.timeIntake_ok {m : Meter} (h : m.ok) : m.timeIntake.ok := by
  obtain ⟨h1, h2, h3, h4⟩ := h
  unfold Meter.timeIntake
  split
  · split
    · exact ⟨le_rfl, le_rfl, show Config.levelMin ≤ Config.levelMax by decide, h4⟩
    · exact ⟨h1, h2, h3, h4⟩
  · exact ⟨h1, h2, h3, h4⟩

theorem Meter.expiry_ok {m : Meter} (h : m.ok) : m.expiry.ok :=
  Meter.timeIntake_ok (Meter.decayHold_ok (Meter.decayLevel_ok h))

theorem clampNat_le {lo hi : Nat} (h : lo ≤ hi) (n : Nat) : lo ≤ clampNat lo hi n ∧ clampNat lo hi n ≤ hi := by
  unfold clampNat; omega

theorem clampInt_le {lo hi : Int} (h : lo ≤ hi) (z : Int) : lo ≤ clampInt lo hi z ∧ clampInt lo hi z ≤ hi := by
  unfold clampInt; omega

/-- A meter record is replaced by one of a setup within range and levels within range. -/
theorem State.setMeter_ranges {s : State} {m : MeterId} {x : Meter} (hset : (s.meter m).setup.inRange → x.setup.inRange)
    (hok : (s.meter m).setup.inRange → (s.meter m).ok → x.ok) : s.RangesKept (s.setMeter m x) := by
  refine State.SameSettings.ranges (t := s.setMeter m x) ⟨rfl, rfl, rfl, rfl, rfl, rfl, rfl⟩ rfl (fun h j => ?_)
    (fun h j => ?_) id id
  · rw [State.setMeter_meter]
    split
    · exact hset (h m)
    · exact h j
  · rw [State.setMeter_meter]
    split
    · exact hok (h m).1 (h m).2
    · exact (h j).2

theorem State.raise_ranges (s : State) (e : EventSource) : s.RangesKept (s.raise e) :=
  (MotionFrame.raise s e).ranges rfl

theorem State.intake_ranges (s : State) (m : MeterId) (v : Word) : s.RangesKept (s.intake m (takeLevel v)) := by
  have h1 : s.RangesKept (s.setMeter m ((s.meter m).intake (takeLevel v))) :=
    State.setMeter_ranges (by rw [Meter.intake_setup]; exact id) fun _ h => Meter.intake_ok h (clampInt_le (by decide) _)
  unfold State.intake
  dsimp only
  split
  · exact h1.trans (State.raise_ranges ..)
  · exact h1

theorem State.meterExpiry_ranges (s : State) (m : MeterId) : s.RangesKept (s.meterExpiry m) := by
  have h1 : s.RangesKept (s.setMeter m (s.meter m).expiry) :=
    State.setMeter_ranges (by rw [Meter.expiry_setup]; exact id) fun _ h => Meter.expiry_ok h
  unfold State.meterExpiry
  dsimp only
  split
  · exact h1.trans (State.raise_ranges ..)
  · exact h1

/-! ### Bays -/

/-- A bay record is replaced by one that is sound where the old one was. -/
theorem State.modBay_ranges {s : State} {b : BayId} {g : Bay → Bay} (h : (s.bay b).ok → (g (s.bay b)).ok) :
    s.RangesKept (s.modBay b g) := by
  refine State.SameSettings.ranges (t := s.modBay b g) ⟨rfl, rfl, rfl, rfl, rfl, rfl, rfl⟩ rfl (fun k => k)
    (fun k m => (k m).2) id (fun k c => ?_)
  by_cases hc : c = b
  · subst hc; rw [State.modBay_bay_self]; exact h (k c)
  · rw [State.modBay_bay_ne _ _ hc]; exact k c

theorem State.takeFitted_ranges (s : State) (b : BayId) (bytes : List Byte) : s.RangesKept (s.takeFitted b bytes) := by
  have h1 := (MotionFrame.foldl (fun t p => t.fitPosition b (s.bay b).fitted (senseFitted bytes) p)
    (fun t p => t.fitPosition_frame b _ _ p) (List.finRange 8) s).ranges (State.foldl_setups (fun _ _ => by simp) _ s)
  unfold State.takeFitted
  exact (h1.trans (State.modBay_ranges fun h => h)).trans ((MotionFrame.arbitrate _).ranges (by simp))

theorem State.takeSupply_ranges {s : State} {b : BayId} (hb : (s.bay b).state = .present) (bytes : List Byte) :
    s.RangesKept (s.takeSupply b bytes) := by
  have hok : ∀ {f g : Bool}, s.RangesKept (s.modBay b fun x => { x with supplyFault := f, supplyGood := g }) := fun {f g} =>
    State.modBay_ranges fun ⟨h1, h2, h3, _⟩ => ⟨h1, h2, h3, fun h => absurd hb h⟩
  unfold State.takeSupply
  dsimp only
  split
  · exact hok
  · split
    · exact hok
    · exact (hok.trans (State.raise_ranges ..)).trans (((MotionFrame.forFitted b _ (fun _ _ => .endService ..) _).trans
        (.arbitrate _)).ranges (by rw [State.arbitrate_setups, State.forFitted_setups fun _ _ => by simp]))

theorem State.takeFrame_ranges {s : State} (arrival : State) {b : BayId} (hb : (s.bay b).state = .present)
    (bytes : List Byte) : s.RangesKept (s.takeFrame arrival b bytes) := by
  have h0 : s.RangesKept (s.modBay b fun x => { x with missRun := 0 }) :=
    State.modBay_ranges fun ⟨h1, h2, _, h4⟩ => ⟨h1, h2, Nat.zero_le _, fun h => ⟨rfl, (h4 h).2⟩⟩
  have h1 := h0.trans (State.takeFitted_ranges _ b bytes)
  have hb1 : (((s.modBay b fun x => { x with missRun := 0 }).takeFitted b bytes).bay b).state = .present := by
    simp only [State.bay, State.takeFitted_bays]
    exact (congrArg Bay.state (State.modBay_bay_self _ b _)).trans
      ((congrArg Bay.state (State.modBay_bay_self s b _)).trans hb)
  have h2 := h1.trans (State.takeSupply_ranges hb1 bytes)
  refine h2.trans (MotionFrame.ranges ?_ ?_)
  · exact (((MotionFrame.forFitted b _ (fun _ _ => .takePosition ..) _).trans
      (.forFitted b _ (fun _ _ => .touchFrame ..) _)).trans (.forFitted b _ (fun _ _ => .serveFader ..) _)).trans
      (.forFitted b _ (fun _ _ => .movedTest ..) _)
  · simp

theorem State.joinBay_ranges (s : State) (b : BayId) (bytes : List Byte) : s.RangesKept (s.joinBay b bytes) := by
  have h0 : s.RangesKept (s.modBay b fun x =>
      { x with state := .present, joinRun := 0, missRun := 0, supplyFault := false, fitted := senseFitted bytes }) :=
    State.modBay_ranges fun _ => ⟨by simp, by simp, by simp, by simp⟩
  exact h0.trans (((MotionFrame.forFitted b _ (fun _ _ => .enterFader ..) _).trans (.raise ..)).ranges
    (by rw [State.raise_setups, State.forFitted_setups fun _ _ => by simp]))

theorem State.takeGoodFrame_ranges (s : State) (b : BayId) (bytes : List Byte) : s.RangesKept (s.takeGoodFrame b bytes) := by
  unfold State.takeGoodFrame
  dsimp only
  split
  · next hb => exact State.modBay_ranges fun ⟨_, _, h3, h4⟩ => ⟨by simp, by simp, h3, fun _ => h4 (by simp [hb])⟩
  · next hb => exact State.modBay_ranges fun ⟨_, _, h3, h4⟩ => ⟨by simp, by simp, h3, fun _ => h4 (by simp [hb])⟩
  · next hb =>
    split
    · exact (s.joinBay_ranges b bytes).trans (State.takeFrame_ranges s (by rw [State.joinBay_state]) bytes)
    · next hrun =>
      refine State.modBay_ranges fun ⟨_, _, h3, h4⟩ => ⟨fun _ => ?_, fun h => absurd hb h, h3, h4⟩
      simp only [Config.joinFrames] at hrun
      dsimp only
      omega
  · next hb => exact State.takeFrame_ranges s hb bytes

theorem State.receiveFrame_ranges (s : State) (b : BayId) (bytes : List Byte) : s.RangesKept (s.receiveFrame b bytes) := by
  unfold State.receiveFrame
  split
  · exact (State.modBay_ranges fun h => h).trans (State.takeGoodFrame_ranges _ b bytes)
  · exact .refl s

theorem State.loseBay_ranges {s : State} {b : BayId} (hb : (s.bay b).state = .present) : s.RangesKept (s.loseBay b) := by
  have h0 := (MotionFrame.forFitted b (fun t p => t.loseFader (faderAt b p)) (fun _ _ => .loseFader ..) s)
  have h1 := h0.ranges (State.forFitted_setups (fun _ _ => by simp) s b)
  refine (h1.trans (State.modBay_ranges fun ⟨_, h2, _⟩ => ⟨by simp, fun _ => h2 ?_, by simp, by simp⟩)).trans
    (((MotionFrame.raise ..).trans (.arbitrate _)).ranges (by simp))
  simp only [State.bay, h0.bays]
  exact fun h => absurd (h.symm.trans hb) (by decide)

theorem State.missFrame_ranges (s : State) (b : BayId) : s.RangesKept (s.missFrame b) := by
  have h0 : s.RangesKept (s.zeroDrives b) := (MotionFrame.mapSlots ..).ranges (by simp)
  refine h0.trans ?_
  unfold State.missFrame
  dsimp only
  split
  · exact .refl _
  · exact .refl _
  · next hb =>
    refine State.modBay_ranges fun ⟨_, _, h3, h4⟩ => ⟨?_, by simp, h3, fun _ => h4 (by simp [hb])⟩
    dsimp only
    split <;> simp
  · next hb =>
    split
    · exact State.loseBay_ranges hb
    · next hrun =>
      refine State.modBay_ranges fun ⟨h1, h2, _, _⟩ => ⟨h1, h2, ?_, fun h => absurd hb h⟩
      simp only [Config.missLimit] at hrun
      dsimp only
      omega

theorem State.closeWindow_ranges (s : State) (b : BayId) : s.RangesKept (s.closeWindow b) := by
  have h0 : s.RangesKept (s.modBay b fun x => { x with window := .closed }) := State.modBay_ranges fun h => h
  unfold State.closeWindow
  dsimp only
  split
  · exact h0.trans (State.missFrame_ranges _ b)
  · exact h0

theorem State.sendFrame_ranges (s : State) (b : BayId) : s.RangesKept (s.sendFrame b) := by
  unfold State.sendFrame
  exact ((s.countFrame_frame b).ranges (State.mapSlots_setups ..)).trans (State.modBay_ranges fun h => h)

end Sys2Proof.Machine
end

section
/-! The commands, the frame expiry and RESET keep every range, which settles O57. -/

namespace Sys2Proof.Machine

/-! ### Cues, recalls and what the arbiter decides -/

theorem State.cues_ranges {s : State} {l : CueList} (h : l.lateLimit = s.cues.lateLimit) :
    s.RangesKept { s with cues := l } :=
  State.ranges_of_same rfl rfl rfl rfl h rfl rfl rfl rfl rfl

theorem State.fireFrom_ranges (s : State) (now : BitVec 32) (c : Cue) : s.RangesKept (s.fireFrom now c) :=
  (State.cues_ranges (l := { s.cues with cues := s.cues.cues.erase c }) rfl).trans
    ((State.fireFrom_frame s now c).ranges (s.fireFrom_setups now c))

theorem State.tickSurface_ranges (s : State) : s.RangesKept s.tickSurface :=
  State.cues_ranges (l := s.cues.setTime (s.cues.surface + 1)) rfl

theorem State.fireCues_ranges (s : State) (l : List Cue) : s.RangesKept (s.fireCues l) :=
  .foldl (fun t c => t.fireFrom_ranges _ c) l s

theorem State.setAdvance_ranges (s : State) (a : AdvanceStage) : s.RangesKept (s.setAdvance a) :=
  State.ranges_of_same rfl rfl rfl rfl rfl rfl rfl rfl rfl rfl

theorem State.fireStage_ranges (s : State) : s.RangesKept s.fireStage := by
  unfold State.fireStage
  dsimp only
  split <;> exact (State.fireCues_ranges ..).trans (State.setAdvance_ranges ..)

theorem State.cueEvent_ranges (s : State) : s.RangesKept s.cueEvent := by
  unfold State.cueEvent
  split
  · exact .refl s
  · exact s.fireStage_ranges
  · split
    · exact .refl s
    · exact s.tickSurface_ranges.trans s.tickSurface.fireStage_ranges

theorem State.refuse_ranges (s : State) (r : RefusalReason) : s.RangesKept (s.refuse r) :=
  State.ranges_of_same rfl rfl rfl rfl rfl rfl rfl rfl rfl rfl

theorem CueList.capture_lateLimit (l : CueList) (f : FaderId) (g : StagedCue) (guard : GuardMode) :
    (l.capture f g guard).lateLimit = l.lateLimit := by
  unfold CueList.capture; split <;> rfl

theorem State.arm_ranges (s : State) : s.RangesKept s.arm := by
  unfold State.arm
  dsimp only
  split
  · split
    · exact s.refuse_ranges _
    · split
      · exact s.refuse_ranges _
      · split
        · exact State.cues_ranges (CueList.capture_lateLimit ..)
        · exact s.refuse_ranges _
  · exact s.refuse_ranges _

theorem State.issueAll_ranges (s : State) (l : List PriorTarget) (tag : Tag) (ramp : Nat) (undo : Bool) :
    s.RangesKept (s.issueAll l tag ramp undo) :=
  (MotionFrame.issueAll ..).ranges (by simp)

theorem State.recalls_ranges (s : State) (x : RecallUnit) : s.RangesKept { s with recalls := x } :=
  State.ranges_of_same rfl rfl rfl rfl rfl rfl rfl rfl rfl rfl

theorem State.commitRecall_ranges (s : State) (count ramp : Nat) : s.RangesKept (s.commitRecall count ramp) := by
  unfold State.commitRecall
  split
  · exact s.refuse_ranges _
  · exact (s.recalls_ranges _).trans (State.issueAll_ranges ..)

theorem State.undoRecall_ranges (s : State) : s.RangesKept s.undoRecall := by
  unfold State.undoRecall
  split
  · exact s.refuse_ranges _
  · exact (s.recalls_ranges _).trans (State.issueAll_ranges ..)

/-! ### Fader commands -/

theorem MotionFrame.homeTakeover (s : State) (i : SlotId) (sl : Slot) : MotionFrame s (s.homeTakeover i sl) := by
  unfold State.homeTakeover
  dsimp only
  refine MotionFrame.trans ?_ ((MotionFrame.setSlot ..).trans (.modFader ..))
  split
  · exact .complete ..
  · exact .refl s

theorem MotionFrame.homeWaiting (s : State) (f : FaderId) : MotionFrame s (s.homeWaiting f) := by
  unfold State.homeWaiting
  split
  · exact .refl s
  · exact ((MotionFrame.modFader ..).trans (.replaceEntry ..)).trans (.arbitrate _)

/-- Home is refused while Stopped, and is otherwise an action on faders (R32). -/
theorem State.homeCommand_frame (s : State) (f : FaderId) :
    s.homeCommand f = s.refuse .stopped ∨ MotionFrame s (s.homeCommand f) := by
  unfold State.homeCommand
  dsimp only
  split
  · exact .inl rfl
  split
  · exact .inr (.refl s)
  split
  · exact .inr (.refl s)
  split
  · exact .inr (.refl s)
  split
  iterate 3 exact .inr (((MotionFrame.modFader ..).trans (.joinQueue ..)).trans (.arbitrate _))
  · exact .inr (.homeWaiting s f)
  iterate 2
    · split
      · exact .inr (.refl s)
      · exact .inr (.homeTakeover ..)
  all_goals exact .inr (.refl s)

theorem State.homeCommand_ranges (s : State) (f : FaderId) : s.RangesKept (s.homeCommand f) := by
  rcases s.homeCommand_frame f with h | h
  · rw [h]; exact s.refuse_ranges _
  · exact h.ranges (by simp)

theorem MotionFrame.releaseCommand (s : State) (f : FaderId) : MotionFrame s (s.releaseCommand f) := by
  unfold State.releaseCommand
  dsimp only
  split
  · exact .modFader ..
  split
  · exact (MotionFrame.leaveQueue ..).trans (.arbitrate _)
  iterate 2
    · split
      · exact .refl s
      · split
        · exact (MotionFrame.endMove ..).trans (.arbitrate _)
        · exact (MotionFrame.endHold ..).trans (.arbitrate _)
  all_goals exact .refl s

theorem MotionFrame.takeControl (s : State) (f : FaderId) (c : ControlFields) : MotionFrame s (s.takeControl f c) := by
  unfold State.takeControl
  dsimp only
  split
  · exact ((MotionFrame.modFader ..).trans (.endService ..)).trans (.arbitrate _)
  · exact .modFader ..

theorem MotionFrame.stopMotion (s : State) : MotionFrame s s.stopMotion := by
  refine (MotionFrame.foldl _ (fun t i => ?_) _ s).trans (.foldl _ (fun t e => .leaveQueue ..) _ _)
  unfold State.stopSlot
  split
  · exact .refl t
  · exact .endUse ..

/-! ### Run control -/

theorem State.queue_run_ranges (s : State) (r : RunState) : s.RangesKept { s with queue := { s.queue with run := r } } :=
  State.ranges_of_same rfl rfl rfl rfl rfl rfl rfl rfl rfl rfl

theorem State.stopCommand_ranges (s : State) : s.RangesKept s.stopCommand := by
  unfold State.stopCommand
  split
  · exact .refl s
  · exact (s.queue_run_ranges .stopped).trans ((MotionFrame.stopMotion _).ranges (State.stopMotion_setups _))

theorem Meter.restart_ok {m : Meter} (h : m.ok) : m.restart.ok :=
  ⟨by show (-6000 : Int) ≤ -6000; decide, by show (-6000 : Int) ≤ -6000; decide, by show (-6000 : Int) ≤ 2000; decide,
    by show (-6000 : Int) ≤ -6000; decide, by show (-6000 : Int) ≤ 2000; decide, h.2.2.2.2.2⟩

theorem State.restartCommand_meter (s : State) (m : MeterId) : s.restartCommand.meter m = (s.meter m).restart := by
  have h : s.restartCommand.engine = { s.engine with meters := s.engine.meters.map Meter.restart } := by
    simp only [State.restartCommand, State.mapFaders]
  simp [State.meter, h]

theorem State.restartCommand_rest (s : State) :
    s.restartCommand.law = s.law ∧ s.restartCommand.setup = s.setup ∧ s.restartCommand.table.limit = s.table.limit ∧
      s.restartCommand.cues.lateLimit = s.cues.lateLimit ∧ s.restartCommand.attn.levels = s.attn.levels ∧
      s.restartCommand.attn.threshold = s.attn.threshold ∧ s.restartCommand.engine.scale = s.engine.scale ∧
      s.restartCommand.attn.quiet = 0 ∧ s.restartCommand.bays = s.bays := by
  simp only [State.restartCommand, State.mapFaders, and_self]

theorem State.restartCommand_ranges (s : State) : s.RangesKept s.restartCommand := by
  obtain ⟨h1, h2, h3, h4, h5, h6, h7, h8, h9⟩ := s.restartCommand_rest
  have hb : s.restartCommand.bay = s.bay := by funext b; simp only [State.bay, h9]
  refine State.SameSettings.ranges ⟨s.restartCommand_setups, h1, h2, h3, h4, h5, h6⟩ h7 (fun h m => ?_) (fun h m => ?_)
    (fun _ => by rw [h8]; exact Nat.zero_le _) (by rw [hb]; exact id)
  · rw [s.restartCommand_meter]; exact h m
  · rw [s.restartCommand_meter]; exact Meter.restart_ok (h m).2

/-! ### RESET -/

theorem State.reset_fader (f : FaderId) : State.reset.fader f = Fader.reset := by
  simp [State.reset, State.fader]

theorem State.reset_meter (m : MeterId) : State.reset.meter m = Meter.reset := by
  simp [State.reset, State.meter]

theorem State.reset_bay (b : BayId) : State.reset.bay b = Bay.reset := by
  simp [State.reset, State.bay]

theorem State.reset_slot (i : SlotId) : State.reset.slot i = none := by
  simp [State.reset, State.slot]

theorem State.reset_law : State.reset.law.ok := by
  decide

theorem State.reset_scale : scaleInForce State.reset.engine.scale := by
  decide

theorem State.reset_settingsOk : State.reset.settingsOk where
  faders f := by rw [State.reset_fader]; decide
  meters m := by rw [State.reset_meter]; decide
  motion := by decide
  slotLimit := by decide
  cut := by decide
  lateLimit := by decide
  levels i := by simp [State.reset, Attention.reset]
  threshold := by decide
  quiet := by decide

theorem Meter.reset_ok : Meter.reset.ok := by
  decide

theorem Bay.reset_ok : Bay.reset.ok := by
  decide

theorem State.assertReset_ranges (s : State) : s.RangesKept s.assertReset where
  law _ := State.reset_law
  scale _ := State.reset_scale
  settings _ :=
    let h := State.reset_settingsOk
    ⟨h.faders, h.meters, h.motion, h.slotLimit, h.cut, h.lateLimit, h.levels, h.threshold, h.quiet⟩
  meters _ m := ⟨State.reset_settingsOk.meters m, (State.reset_meter m ▸ Meter.reset_ok : (State.reset.meter m).ok)⟩
  bays _ b := (State.reset_bay b ▸ Bay.reset_ok : (State.reset.bay b).ok)

/-! ### Command words -/

theorem State.commitTaper_ranges (s : State) : s.RangesKept s.commitTaper := by
  cases h : s.staging.taperRefusal with
  | some r => rw [State.commitTaper_refused h]; exact s.refuse_ranges r
  | none =>
    rw [State.commitTaper_taken h]
    exact { law := fun k => ⟨Staging.taperOk_of_taken h, k.2⟩
            scale := id
            settings := fun k =>
              ⟨k.faders, k.meters, k.motion, k.slotLimit, k.cut, k.lateLimit, k.levels, k.threshold, k.quiet⟩
            meters := id
            bays := id }

theorem scaleInForce_of_ok {l : List Int} (hlen : l.length = 32) (h : scaleOk l = true) : scaleInForce l := by
  simp only [scaleOk, Bool.and_eq_true, Option.any_eq_true, decide_eq_true_eq, List.isChain_iff_pairwise] at h
  obtain ⟨⟨⟨p, hp, hmin⟩, q, hq, hmax⟩, hrise⟩ := h
  refine ⟨hlen, hrise, fun t ht => ⟨?_, ?_⟩⟩
  · obtain ⟨r, rfl⟩ := List.head?_eq_some_iff.mp hp
    rcases List.mem_cons.mp ht with rfl | ht
    · exact hmin
    · exact hmin.trans ((List.pairwise_cons.mp hrise).1 t ht).le
  · obtain ⟨r, rfl⟩ := List.getLast?_eq_some_iff.mp hq
    rcases List.mem_append.mp ht with ht | ht
    · exact ((List.pairwise_append.mp hrise).2.2 t ht q (by simp)).le.trans hmax
    · rw [List.mem_singleton.mp ht]; exact hmax

theorem State.commitScale_ranges (s : State) : s.RangesKept s.commitScale := by
  rw [State.commitScale_eq]
  split
  · next h =>
    exact { law := id
            scale := fun _ => scaleInForce_of_ok (by simp [Staging.thresholds]) h
            settings := fun k =>
              ⟨k.faders, k.meters, k.motion, k.slotLimit, k.cut, k.lateLimit, k.levels, k.threshold, k.quiet⟩
            meters := id
            bays := id }
  · exact s.refuse_ranges _

theorem State.acknowledge_ranges (s : State) (n : Nat) : s.RangesKept (s.acknowledge n) := by
  unfold State.acknowledge
  split
  · exact State.ranges_of_same rfl rfl rfl rfl rfl rfl rfl rfl rfl rfl
  · split
    · exact s.refuse_ranges _
    · exact .refl s

theorem State.takeCommand_ranges (s : State) (cw : CommandWord) (code : Byte) (u : UpperLanes) :
    s.RangesKept (s.takeCommand cw code u) := by
  have hite : ∀ {p : Prop} [Decidable p] {a b : State}, s.RangesKept a → s.RangesKept b →
      s.RangesKept (if p then a else b) := fun ha hb => by split <;> assumption
  have href := s.refuse_ranges .unknownCommand
  unfold State.takeCommand
  refine hite (.refl s) ?_
  cases cw with
  | runControl =>
    exact hite s.stopCommand_ranges (hite (s.queue_run_ranges _) (hite s.restartCommand_ranges href))
  | faderCommand f => exact hite (s.homeCommand_ranges f) (hite ((MotionFrame.releaseCommand s f).ranges (by simp)) href)
  | cueArm => exact hite s.arm_ranges href
  | cueCancel => exact hite (State.cues_ranges rfl) href
  | recallCommit => exact hite (s.commitRecall_ranges _ _) (hite s.undoRecall_ranges href)
  | taperCommit => exact hite s.commitTaper_ranges href
  | scaleCommit => exact hite s.commitScale_ranges href
  | acknowledge => exact s.acknowledge_ranges _

/-! ### Setup words -/

/-- A change of one setting, within its range, of a part that is otherwise the same. -/
theorem State.ranges_of_setting {s t : State} (hlaw : s.law.ok → t.law.ok) (he : t.engine = s.engine)
    (hset : s.settingsOk → t.settingsOk) (hb : t.bays = s.bays) : s.RangesKept t := by
  have hm : t.meter = s.meter := by funext m; simp only [State.meter, he]
  have hb' : t.bay = s.bay := by funext b; simp only [State.bay, hb]
  exact ⟨hlaw, by rw [he]; exact id, hset, by rw [hm]; exact id, by rw [hb']; exact id⟩

theorem State.setFaderSetup_ranges {s : State} {f : FaderId} {g : FaderSetup → FaderSetup}
    (h : (s.fader f).setup.inRange → (g (s.fader f).setup).inRange) : s.RangesKept (s.setFaderSetup f g) := by
  refine State.ranges_of_setting (t := s.setFaderSetup f g) id rfl (fun k => ?_) rfl
  refine ⟨fun q => ?_, k.meters, k.motion, k.slotLimit, k.cut, k.lateLimit, k.levels, k.threshold, k.quiet⟩
  rw [State.setFaderSetup, State.modFader_fader]
  split
  · next e => subst e; exact h (k.faders f)
  · exact k.faders q

theorem FaderSetup.takeA_inRange {x : FaderSetup} (h : x.inRange) (v : Word) : (x.takeA v).inRange := by
  obtain ⟨-, -, -, -, -, -, -, h8, h9, h10, h11, h12⟩ := h
  exact ⟨(clampNat_le (by decide) _).2, (clampNat_le (by decide) _).1, (clampNat_le (by decide) _).2,
    (clampNat_le (by decide) _).1, (clampNat_le (by decide) _).2, (clampNat_le (by decide) _).1,
    (clampNat_le (by decide) _).2, h8, h9, h10, h11, h12⟩

theorem FaderSetup.takeB_inRange {x : FaderSetup} (h : x.inRange) (v : Word) : (x.takeB v).inRange := by
  obtain ⟨h1, h2, h3, h4, h5, h6, h7, -⟩ := h
  exact ⟨h1, h2, h3, h4, h5, h6, h7, (clampNat_le (by decide) _).1, (clampNat_le (by decide) _).2,
    (clampNat_le (by decide) _).1, (clampNat_le (by decide) _).2, (clampNat_le (by decide) _).2⟩

theorem MeterSetup.takeA_inRange {x : MeterSetup} (h : x.inRange) (v : Word) : (x.takeA v).inRange := by
  obtain ⟨-, -, h3, h4, h5, h6, -, -, h9⟩ := h
  exact ⟨(clampNat_le (by decide) _).1, (clampNat_le (by decide) _).2, h3, h4, h5, h6, (clampNat_le (by decide) _).1,
    (clampNat_le (by decide) _).2, h9⟩

theorem MeterSetup.takeB_inRange {x : MeterSetup} (h : x.inRange) (v : Word) : (x.takeB v).inRange := by
  obtain ⟨h1, h2, -, -, h5⟩ := h
  exact ⟨h1, h2, (clampNat_le (by decide) _).2, (clampNat_le (by decide) _).2, h5⟩

theorem MeterSetup.takeC_inRange {x : MeterSetup} (h : x.inRange) (v : Word) : (x.takeC v).inRange := by
  obtain ⟨h1, h2, h3, h4, -, -, h7, h8, -⟩ := h
  exact ⟨h1, h2, h3, h4, (clampInt_le (by decide) _).1, (clampInt_le (by decide) _).2, h7, h8,
    (clampNat_le (by decide) _).2⟩

/-- A meter takes new setup values within range, its attack among them. -/
theorem State.setMeterSetup_ranges {s : State} {m : MeterId} {g : MeterSetup → MeterSetup}
    (h : (s.meter m).setup.inRange → (g (s.meter m).setup).inRange) : s.RangesKept (s.setMeterSetup m g) :=
  State.setMeter_ranges h fun hin ⟨h1, h2, h3, h4, h5, _⟩ => ⟨h1, h2, h3, h4, h5, (h hin).1, (h hin).2.1⟩

theorem State.motionSetup_ranges {s : State} {g : MotionSetup} (h : s.setup.inRange → g.inRange) :
    s.RangesKept { s with setup := g } :=
  State.ranges_of_setting (t := { s with setup := g }) id rfl
    (fun k => ⟨k.faders, k.meters, h k.motion, k.slotLimit, k.cut, k.lateLimit, k.levels, k.threshold, k.quiet⟩) rfl

theorem State.takeSetup_ranges (s : State) (w : SetupWord) (v : Word) : s.RangesKept (s.takeSetup w v) := by
  cases w with
  | stallSetup =>
    exact State.motionSetup_ranges fun ⟨_, _, _, h⟩ =>
      ⟨(clampNat_le (by decide) _).1, (clampNat_le (by decide) _).2, (clampNat_le (by decide) _).2, h⟩
  | moveLimit =>
    exact State.motionSetup_ranges fun ⟨h1, h2, h3, _, _, h⟩ =>
      ⟨h1, h2, h3, (clampNat_le (by decide) _).1, (clampNat_le (by decide) _).2, h⟩
  | homingA =>
    exact State.motionSetup_ranges fun ⟨h1, h2, h3, h4, h5, _, _, _, _, h⟩ =>
      ⟨h1, h2, h3, h4, h5, (clampNat_le (by decide) _).1, (clampNat_le (by decide) _).2, (clampNat_le (by decide) _).1,
        (clampNat_le (by decide) _).2, h⟩
  | homingB =>
    exact State.motionSetup_ranges fun ⟨h1, h2, h3, h4, h5, h6, h7, h8, h9, _, _, _, _, h⟩ =>
      ⟨h1, h2, h3, h4, h5, h6, h7, h8, h9, (clampNat_le (by decide) _).1, (clampNat_le (by decide) _).2,
        (clampNat_le (by decide) _).1, (clampNat_le (by decide) _).2, h⟩
  | touchSetup =>
    exact State.motionSetup_ranges fun ⟨h1, h2, h3, h4, h5, h6, h7, h8, h9, h10, h11, h12, h13, _⟩ =>
      ⟨h1, h2, h3, h4, h5, h6, h7, h8, h9, h10, h11, h12, h13, (clampNat_le (by decide) _).2,
        (clampNat_le (by decide) _).1, (clampNat_le (by decide) _).2⟩
  | cutPosition =>
    exact State.ranges_of_setting (fun k => ⟨k.1, (clampNat_le (by decide) _).2⟩) rfl (fun k =>
      ⟨k.faders, k.meters, k.motion, k.slotLimit, (clampNat_le (by decide) _).2, k.lateLimit, k.levels, k.threshold,
        k.quiet⟩) rfl
  | lateLimit =>
    exact State.ranges_of_setting id rfl (fun k =>
      ⟨k.faders, k.meters, k.motion, k.slotLimit, k.cut, (clampNat_le (by decide) _).2, k.levels, k.threshold,
        k.quiet⟩) rfl
  | levelsFirst =>
    refine State.ranges_of_setting id rfl (fun k =>
      ⟨k.faders, k.meters, k.motion, k.slotLimit, k.cut, k.lateLimit, fun i => ?_, k.threshold, k.quiet⟩) rfl
    simp only [State.takeSetup, takeLevels, Fin.getElem_fin, Vector.getElem_ofFn]
    exact (clampNat_le (by decide) _).2
  | levelsSecond => exact .refl s
  | attentionControl =>
    exact State.ranges_of_setting id rfl (fun k =>
      ⟨k.faders, k.meters, k.motion, k.slotLimit, k.cut, k.lateLimit, k.levels, (clampNat_le (by decide) _).2,
        k.quiet⟩) rfl
  | faderA f => exact State.setFaderSetup_ranges (g := fun x => x.takeA v) fun h => FaderSetup.takeA_inRange h v
  | faderB f => exact State.setFaderSetup_ranges (g := fun x => x.takeB v) fun h => FaderSetup.takeB_inRange h v
  | meterA m => exact State.setMeterSetup_ranges (g := fun x => x.takeA v) fun h => MeterSetup.takeA_inRange h v
  | meterB m => exact State.setMeterSetup_ranges (g := fun x => x.takeB v) fun h => MeterSetup.takeB_inRange h v
  | meterC m => exact State.setMeterSetup_ranges (g := fun x => x.takeC v) fun h => MeterSetup.takeC_inRange h v

/-! ### The frame expiry -/

theorem State.slotEvent_ranges (s : State) (i : SlotId) (due : Slot → Bool) : s.RangesKept (s.slotEvent i due) := by
  unfold State.slotEvent
  split
  · exact .refl s
  · split
    · have h1 : s.RangesKept (s.countSlot i) := State.ranges_of_same rfl rfl rfl rfl rfl rfl rfl rfl rfl rfl
      exact h1.trans (((MotionFrame.setSlot ..).trans (.judgeSlot ..)).ranges (by simp))
    · exact .refl s

theorem State.tickSlots_ranges (s : State) : s.RangesKept s.tickSlots := by
  have h : s.tickSlots.faders = s.faders ∧ s.tickSlots.law = s.law ∧ s.tickSlots.setup = s.setup ∧
      s.tickSlots.table.limit = s.table.limit ∧ s.tickSlots.cues = s.cues ∧ s.tickSlots.engine = s.engine ∧
      s.tickSlots.bays = s.bays ∧ s.tickSlots.attn = s.attn := by
    simp only [State.tickSlots, and_self]
  obtain ⟨h1, h2, h3, h4, h5, h6, h7, h8⟩ := h
  exact State.ranges_of_same (State.setups_of_faders h1) h2 h3 h4 (by rw [h5]) h6 h7 (by rw [h8]) (by rw [h8]) (by rw [h8])

theorem State.tickQuiet_ranges (s : State) : s.RangesKept s.tickQuiet := by
  refine State.ranges_of_setting id rfl (fun k => ?_) rfl
  refine ⟨k.faders, k.meters, k.motion, k.slotLimit, k.cut, k.lateLimit, k.levels, k.threshold, ?_⟩
  have := k.quiet
  simp only [State.tickQuiet]
  split <;> omega

theorem Fader.tick_setup (x : Fader) : x.tick.setup = x.setup := by
  unfold Fader.tick; split <;> rfl

theorem State.tickCounters_ranges (s : State) : s.RangesKept s.tickCounters :=
  (s.tickSlots_ranges.trans ((MotionFrame.mapFaders ..).ranges (State.mapFaders_setups fun _ x => x.tick_setup))).trans
    (State.tickQuiet_ranges _)

theorem State.meterShare_ranges (s : State) (m : MeterId) : s.RangesKept (s.meterShare m) := by
  unfold State.meterShare
  split
  · exact .refl s
  · exact s.meterExpiry_ranges m

theorem State.advanceShare_ranges (s : State) : s.RangesKept s.advanceShare := by
  unfold State.advanceShare
  split
  · exact s.tickSurface_ranges.trans (State.fireCues_ranges s.tickSurface _)
  · exact State.fireCues_ranges s _
  · exact .refl s

theorem State.endExpiry_ranges (s : State) : s.RangesKept s.endExpiry :=
  State.ranges_of_same rfl rfl rfl rfl rfl rfl rfl rfl rfl rfl

theorem State.expire_ranges (s : State) : s.RangesKept s.expire := by
  have h1 := s.tickCounters_ranges
  have h2 := h1.trans (.foldl State.closeWindow_ranges (List.finRange 6) _)
  have h3 := h2.trans (.foldl (fun t i => (MotionFrame.judgeSlot t i).ranges (by simp)) (List.finRange 16) _)
  have h4 := h3.trans (.foldl (fun t f => (MotionFrame.judgeGuard t f).ranges (by simp)) (List.finRange 48) _)
  have h5 := h4.trans (State.advanceShare_ranges _)
  have h6 := h5.trans (.foldl State.meterShare_ranges (List.finRange 48) _)
  have h7 := h6.trans (.foldl State.sendFrame_ranges (List.finRange 6) _)
  exact h7.trans (State.endExpiry_ranges _)

/-! ### Every step -/

theorem State.Taken.ranges {s t : State} (h : s.Taken t) : s.RangesKept t := by
  cases h with
  | nothing => exact .refl s
  | reset => exact s.assertReset_ranges
  | expiry => exact s.expire_ranges
  | cues => exact s.cueEvent_ranges
  | meterTimeout m =>
    unfold State.meterEvent
    split
    · exact (s.meterExpiry_ranges m).trans (State.ranges_of_same rfl rfl rfl rfl rfl rfl rfl rfl rfl rfl)
    · exact .refl s
  | slotTimeout i due => exact s.slotEvent_ranges i due
  | guardEnd f => exact (MotionFrame.guardEvent s f).ranges (by simp)
  | quietEnd =>
    unfold State.quietEvent
    split
    · exact State.ranges_of_setting id rfl (fun k =>
        ⟨k.faders, k.meters, k.motion, k.slotLimit, k.cut, k.lateLimit, k.levels, k.threshold, Nat.zero_le _⟩) rfl
    · exact .refl s
  | window b =>
    unfold State.windowEvent
    split
    · exact s.closeWindow_ranges b
    · exact .refl s
  | frame b bytes => exact s.receiveFrame_ranges b bytes
  | grant =>
    cases h : s.grantStep with
    | none => exact .refl s
    | some t =>
      exact (MotionFrame.arbiterStep (by simp [State.arbiterStep, h])).ranges (State.grantStep_setups h)
  | preemption =>
    cases h : s.preemptStep with
    | none => exact .refl s
    | some t =>
      obtain ⟨e, rest, i, sl, -, -, -, -, -, rfl⟩ := MotionFrame.preemptStep_inv h
      exact ((MotionFrame.endHold ..).trans (.grantTo ..)).ranges (by simp)
  | request r => exact (MotionFrame.accept s r).ranges (by simp)
  | control f c => exact (MotionFrame.takeControl s f c).ranges (by simp)
  | intake m v => exact s.intake_ranges m v
  | surface v => exact State.cues_ranges rfl
  | slotLimit n =>
    have h1 : s.RangesKept { s with table := { s.table with limit := clampNat 1 16 n } } :=
      State.ranges_of_setting id rfl (fun k =>
        ⟨k.faders, k.meters, k.motion, clampNat_le (by decide) n, k.cut, k.lateLimit, k.levels, k.threshold, k.quiet⟩) rfl
    exact h1.trans ((MotionFrame.arbitrate _).ranges (by simp))
  | quiet n =>
    exact State.ranges_of_setting id rfl (fun k =>
      ⟨k.faders, k.meters, k.motion, k.slotLimit, k.cut, k.lateLimit, k.levels, k.threshold,
        (clampNat_le (by decide) n).2⟩) rfl
  | setup w v => exact s.takeSetup_ranges w v
  | command cw code u => exact s.takeCommand_ranges cw code u
  | moved h =>
    exact (MotionFrame.mapFaders ..).ranges (State.mapFaders_setups fun _ _ => by split <;> rfl)
  | overRead m => exact State.setMeter_ranges id fun _ h => h

/-- Settles O57: the blocks' part of a step keeps each range, and what is aside of it touches none. -/
theorem tablesAndSettingsStayInRange : Obligations.TablesAndSettingsStayInRange := by
  unfold Obligations.TablesAndSettingsStayInRange
  intro s t hstep
  obtain ⟨a, u, h1, h2, h3⟩ := step_steps hstep
  have h := (h1.ranges.trans h2.ranges).trans h3.ranges
  exact ⟨h.law, h.scale, h.settings, fun k m => (h.meters k m).2, h.bays⟩

end Sys2Proof.Machine
end

section
/-! RESET and its release, and the state after RESET: O10 and O59. -/

namespace Sys2Proof.Machine

/-- Nothing pends after RESET. -/
theorem State.reset_attnAsserted : State.reset.attnAsserted = false := by
  decide

/-- RESET leaves the attention line down (R153). -/
theorem State.assertReset_attnAsserted (s : State) : s.assertReset.attnAsserted = false :=
  State.reset_attnAsserted

theorem State.reset_positionsOk : State.reset.positionsOk :=
  State.positionsOk_of_placedAt fun f => (State.soundAt_reset f).2.1

/-- Settles O59: the ownership and position invariants fader by fader, each other from the values of RESET. -/
theorem resetMeetsTheInvariants : Obligations.ResetMeetsTheInvariants := by
  unfold Obligations.ResetMeetsTheInvariants
  have hs : State.reset.Sound := fun f => (State.soundAt_reset f).1
  refine ⟨reset_mem_wf, by decide, by decide, by decide, by decide, hs.owned, hs.absentOk, hs.heldFree,
    fun f => (State.soundAt_reset f).2.2.2, ?_, State.reset_law, State.reset_scale, State.reset_settingsOk,
    fun m => State.reset_meter m ▸ Meter.reset_ok, fun b => State.reset_bay b ▸ Bay.reset_ok, State.reset_positionsOk,
    State.reset_attnAsserted.symm, (nomatch ·), fun f => (State.soundAt_reset f).2.2.1⟩
  exact rfl

/-- Settles O10: the values of RESET block by block, and the release by the strap setting. -/
theorem resetAndItsRelease : Obligations.ResetAndItsRelease := by
  unfold Obligations.ResetAndItsRelease
  constructor
  · intro s
    have hx : ∀ f, s.assertReset.driveAttn.fader f = Fader.reset := State.reset_fader
    have hm : ∀ m, s.assertReset.driveAttn.meter m = Meter.reset := State.reset_meter
    have hb : ∀ b, s.assertReset.driveAttn.bay b = Bay.reset := State.reset_bay
    have hscale : State.reset.engine.scale = (List.range 32).map (fun i => -6000 + 250 * (i : Int)) := by decide
    have hoff : gainOfPerMille State.reset.law Fader.reset.perMille = .off := by decide
    have hi : ∀ i, s.assertReset.driveAttn.slot i = none := State.reset_slot
    refine ⟨s.assertReset.driveAttn, rfl, rfl, rfl, rfl, rfl, s.assertReset_attnAsserted, rfl, rfl, rfl, rfl, rfl, ?_, ?_,
      fun f => ?_, rfl, rfl, rfl, hi, rfl, rfl, rfl, rfl, rfl, rfl, hm, hscale, fun b => ?_, rfl, ?_, rfl, rfl, rfl, rfl,
      rfl, rfl, rfl, rfl, rfl, ?_, ?_, ?_⟩
    · intro m; simp [State.assertReset, State.reset, EarlyShare.none]
    · intro i; simp [State.assertReset, State.reset, EarlyShare.none]
    · unfold State.presentGain
      rw [hx]
      exact ⟨rfl, rfl, rfl, rfl, rfl, rfl, rfl, rfl, rfl, rfl, rfl, rfl, rfl, rfl, rfl, rfl, rfl, rfl, rfl, rfl, hoff⟩
    · rw [hb]; decide
    · intro i; simp [State.assertReset, State.reset, Attention.reset]
    · intro k; simp [State.assertReset, State.reset, Staging.reset]
    · intro k; simp [State.assertReset, State.reset, Staging.reset]
    · intro k; simp [State.assertReset, State.reset, Staging.reset]
  · intro n s
    refine ⟨fun hr => ⟨_, ?_, rfl, ?_⟩, fun hr => ?_⟩
    · show (s.releaseReset n).done = _
      rw [State.releaseReset, if_pos hr]; rfl
    · simp [State.imageBase]
    · show (s.releaseReset n).done = _
      rw [State.releaseReset, if_neg (by simp [hr])]; rfl

end Sys2Proof.Machine
end

section
/-! The acceptance of a target request, case by case (R14 to R18, R26, R27, R52, R69): O12, O13, O14 and O15. -/

namespace Sys2Proof.Machine

/-! ### Updates of one fader record -/

theorem State.setFader_setFader (s : State) (f : FaderId) (x y : Fader) :
    (s.setFader f x).setFader f y = s.setFader f y := by
  simp [State.setFader]

theorem State.modFader_setFader (s : State) (f : FaderId) (x : Fader) (g : Fader → Fader) :
    (s.setFader f x).modFader f g = s.setFader f (g x) := by
  rw [State.modFader, State.setFader_fader_self, State.setFader_setFader]

/-! ### The steps that every request goes through -/

/-- The record with the conversion's flags (R6, R11). -/
def Fader.flagged (x : Fader) (c : Conversion) : Fader :=
  { x with rangeClamped := c.clamped, roundedUp := c.roundedUp }

/-- The record with the target that a conversion gave (R17, R18). -/
def Fader.aimed (x : Fader) (c : Conversion) : Fader :=
  { x.flagged c with targetGain := c.accepted, targetPos := c.pos }

theorem State.recordConversion_eq (s : State) (f : FaderId) (c : Conversion) :
    s.recordConversion f c = s.setFader f ((s.fader f).flagged c) := rfl

theorem State.recordTarget_flagged (s : State) (f : FaderId) (c : Conversion) :
    (s.setFader f ((s.fader f).flagged c)).recordTarget f c = s.setFader f ((s.fader f).aimed c) :=
  s.modFader_setFader ..

theorem Fader.held_iff (x : Fader) : x.held = true ↔ x.touch ≠ .untouched := by
  simp [Fader.held]

/-- A request for a held fader (R15). -/
theorem State.accept_held {s : State} {r : Request} (h : (s.fader r.fader).touch ≠ .untouched) :
    s.accept r = (s.setFader r.fader ((s.fader r.fader).flagged (convertGain s.law.taper r.gain))).acceptHeld r
      (convertGain s.law.taper r.gain) := by
  have : (((s.fader r.fader).flagged (convertGain s.law.taper r.gain)).held) = true := (Fader.held_iff _).mpr h
  simp only [State.accept, State.recordConversion_eq, State.setFader_fader_self, this, if_true]

/-- A request while Stopped, for an Untouched fader (R16). -/
theorem State.accept_stopped {s : State} {r : Request} (h : (s.fader r.fader).touch = .untouched)
    (hrun : s.queue.run = .stopped) :
    s.accept r = (s.setFader r.fader ((s.fader r.fader).flagged (convertGain s.law.taper r.gain))).targetFromPresent
      r.fader := by
  have : ¬(((s.fader r.fader).flagged (convertGain s.law.taper r.gain)).held) = true := by
    rw [Fader.held_iff]; exact not_not_intro h
  simp only [State.accept, State.recordConversion_eq, State.setFader_fader_self, this, State.setFader_queue, hrun, if_true]
  rfl

/-- A request in Running, for an Untouched fader (R17, R18). -/
theorem State.accept_running {s : State} {r : Request} (h : (s.fader r.fader).touch = .untouched)
    (hrun : s.queue.run = .running) :
    let t := s.setFader r.fader ((s.fader r.fader).aimed (convertGain s.law.taper r.gain))
    s.accept r = if t.blocked r.fader then t.takeOn r.fader r.cls r.tag true else t.acceptMotion r := by
  have hheld : ¬(((s.fader r.fader).flagged (convertGain s.law.taper r.gain)).held) = true := by
    rw [Fader.held_iff]; exact not_not_intro h
  simp only [State.accept, State.recordConversion_eq, State.setFader_fader_self, State.setFader_queue, hrun,
    State.recordTarget_flagged, if_neg hheld, if_neg (show ¬RunState.running = .stopped by decide)]

/-- What blocks a fader (R17). -/
theorem State.blocked_iff (s : State) (f : FaderId) :
    s.blocked f = true ↔ (s.fader f).motion = .absent ∨ (s.fader f).motion = .unhomed ∨ (s.fader f).motion = .faulted ∨
      (s.fader f).inhibit = true ∨ (s.bay (bayOf f)).supplyFault = true := by
  simp [State.blocked, State.supplyFaulted, or_assoc]

/-- Settles O12: the write is the acceptance of the merged gain as a Direct request, and the rewrite its outcome. -/
theorem targetWriteIsDirectRequest : Obligations.TargetWriteIsDirectRequest := by
  unfold Obligations.TargetWriteIsDirectRequest
  intro f l s hr
  have hframe := MotionFrame.accept s (s.directRequest f l)
  have hw : s.writes (.targetWrite f l) _ _ _ := State.writes_of_rewrite (w := .target f)
    (v := putInt 0 16 (s.targetRewrite (s.directRequest f l)).code) (t := s.accept (s.directRequest f l))
    (congrArg State.done (State.onBus_live hr ..)) hframe.mem hframe.imageBase
  have hkept : s.targetRewrite (s.directRequest f l) =
      if (s.fader f).touch ≠ .untouched then
        if (s.fader f).mode = .latch then (s.fader f).targetGain
        else (convertGain s.law.taper (s.directRequest f l).gain).accepted
      else if s.queue.run = .stopped then gainOfPerMille s.law (s.fader f).perMille
      else (convertGain s.law.taper (s.directRequest f l).gain).accepted := by
    simp only [State.targetRewrite, Fader.held_iff]
    rfl
  rw [hkept] at hw
  exact hw

/-- Settles O13: the held, stopped and blocked cases of acceptance. -/
theorem requestsThatMoveNothing : Obligations.RequestsThatMoveNothing := by
  unfold Obligations.RequestsThatMoveNothing
  intro s r
  refine ⟨fun h hmode => ?_, fun h hmode hcls => ?_, fun h hmode hcls => ?_, fun h hrun => ?_, fun h hrun hblock => ?_⟩
  · rw [State.accept_held h, State.acceptHeld, State.setFader_fader_self]
    split
    · exact s.modFader_setFader ..
    · exact s.modFader_setFader ..
    · next hm => exact absurd hm hmode
  · rw [State.accept_held h, State.acceptHeld, State.setFader_fader_self]
    split
    · next hm => exact absurd (hm.symm.trans hmode) (by decide)
    · next hm => exact absurd (hm.symm.trans hmode) (by decide)
    · rw [if_neg hcls]; rfl
  · rw [State.accept_held h, State.acceptHeld, State.setFader_fader_self]
    split
    · next hm => exact absurd (hm.symm.trans hmode) (by decide)
    · next hm => exact absurd (hm.symm.trans hmode) (by decide)
    · rw [if_pos hcls, State.complete, State.setFader_fader_self, hcls]; rfl
  · rw [State.accept_stopped h hrun, State.targetFromPresent, State.modFader_setFader, State.presentGain,
      State.setFader_fader_self]
    rfl
  · rw [State.accept_running h hrun, if_pos ((State.blocked_iff ..).mpr (by simpa [Fader.aimed, Fader.flagged] using hblock))]
    exact s.modFader_setFader ..

/-! ### A fader that may be moved -/

/-- A request that R18 takes by the motion state of its fader. -/
structure Request.Moves (s : State) (r : Request) : Prop where
  untouched : (s.fader r.fader).touch = .untouched
  running : s.queue.run = .running
  enabled : (s.fader r.fader).inhibit = false
  supplied : (s.bay (bayOf r.fader)).supplyFault = false
  homed : (s.fader r.fader).motion ≠ .absent ∧ (s.fader r.fader).motion ≠ .unhomed ∧ (s.fader r.fader).motion ≠ .faulted

/-- The state with the target of a request recorded. -/
def Request.recorded (s : State) (r : Request) : State :=
  s.setFader r.fader ((s.fader r.fader).aimed (convertGain s.law.taper r.gain))

theorem Request.Moves.accept {s : State} {r : Request} (h : r.Moves s) : s.accept r = (r.recorded s).acceptMotion r := by
  refine (State.accept_running h.untouched h.running).trans (if_neg fun hb => ?_)
  rw [State.blocked_iff, State.setFader_fader_self] at hb
  obtain ⟨h1, h2, h3⟩ := h.homed
  rcases hb with hb | hb | hb | hb | hb
  · exact h1 hb
  · exact h2 hb
  · exact h3 hb
  · exact absurd (h.enabled.symm.trans hb) (by decide)
  · exact absurd (h.supplied.symm.trans hb) (by decide)

theorem Request.recorded_fader (s : State) (r : Request) :
    (r.recorded s).fader r.fader = (s.fader r.fader).aimed (convertGain s.law.taper r.gain) :=
  s.setFader_fader_self ..

theorem Request.recorded_modFader (s : State) (r : Request) (g : Fader → Fader) :
    (r.recorded s).modFader r.fader g = s.setFader r.fader (g ((s.fader r.fader).aimed (convertGain s.law.taper r.gain))) :=
  s.modFader_setFader ..

theorem within_iff (band a b : Nat) : within band a b = true ↔ ((a : Int) - b).natAbs ≤ band := by
  simp only [within, decide_eq_true_eq]; omega

end Sys2Proof.Machine
end

section
/-! A request that may move its fader, by motion state (R18, R26, R27, R52, R69): O14 and O15. -/

namespace Sys2Proof.Machine

/-! ### Updates of a fader's record, slot and entry -/

theorem State.modFader_setSlot_setFader (s : State) (f : FaderId) (x : Fader) (i : SlotId) (v : Option Slot)
    (g : Fader → Fader) : ((s.setFader f x).setSlot i v).modFader f g = (s.setFader f (g x)).setSlot i v := by
  rw [← s.modFader_setFader]; rfl

theorem State.replaceEntry_eq (s : State) {e : Entry} {f : FaderId} (h : e.fader = f) :
    s.replaceEntry e = { s with queue := { s.queue with
      entries := insertEntry e (s.queue.entries.filter fun d => decide (d.fader ≠ f)) } } := by
  subst h; rfl

/-! ### The recorded request -/

@[simp] theorem Request.recorded_slotFor (s : State) (r : Request) (f : FaderId) :
    (r.recorded s).slotFor f = s.slotFor f := rfl

@[simp] theorem Request.recorded_entryFor (s : State) (r : Request) (f : FaderId) :
    (r.recorded s).entryFor f = s.entryFor f := rfl

/-- The target raw position of a recorded request outside a homing's Park (R13). -/
theorem Request.recorded_targetRaw {s : State} {r : Request} (h : ∀ i sl, s.slotFor r.fader = some (i, sl) →
    ¬(sl.use = .homing ∧ sl.phase = .park)) :
    (r.recorded s).targetRaw r.fader = rawOfPerMille (s.fader r.fader).cal.low (s.fader r.fader).cal.high
      (convertGain s.law.taper r.gain).pos := by
  simp only [State.targetRaw, State.calInForce, r.recorded_fader, r.recorded_slotFor]
  split
  · rfl
  · next hsl => rw [if_neg (h _ _ hsl)]; rfl

/-- The target raw position of a recorded request during a homing's Park, under the found pair (R58). -/
theorem Request.recorded_targetRaw_park {s : State} {r : Request} {i : SlotId} {sl : Slot}
    (h : s.slotFor r.fader = some (i, sl)) (huse : sl.use = .homing) (hphase : sl.phase = .park) :
    (r.recorded s).targetRaw r.fader = rawOfPerMille (sl.foundLow.getD (s.fader r.fader).cal.low)
      (sl.foundHigh.getD (s.fader r.fader).cal.high) (convertGain s.law.taper r.gain).pos := by
  simp only [State.targetRaw, State.calInForce, r.recorded_fader, r.recorded_slotFor, h, huse, hphase, and_self, if_true]
  rfl

/-- The fader takes on the class and tag of a recorded request (R8). -/
theorem Request.recorded_takeOn (s : State) (r : Request) (cls : ReqClass) (tag : Tag) (off : Bool) :
    (r.recorded s).takeOn r.fader cls tag off = s.setFader r.fader
      { (s.fader r.fader).aimed (convertGain s.law.taper r.gain) with cls := cls, tag := tag, offTarget := off } :=
  r.recorded_modFader ..

/-! ### Acceptance by motion state -/

/-- The acceptance of a request that may move its fader, by a motion state that is not blocked. -/
theorem Request.accept_of_motion {s : State} {r : Request} {m : MotionState} (htouch : (s.fader r.fader).touch = .untouched)
    (hrun : s.queue.run = .running) (hinhibit : (s.fader r.fader).inhibit = false)
    (hsupply : (s.bay (bayOf r.fader)).supplyFault = false) (hm : (s.fader r.fader).motion = m)
    (hfree : m = .idle ∨ m.free = false) :
    s.accept r = match m with
      | .idle => (r.recorded s).acceptIdle r
      | .waiting => (r.recorded s).acceptWaiting r
      | .moving | .holding => (r.recorded s).acceptDriven r
      | .homing => (r.recorded s).acceptHoming r
      | .absent | .unhomed | .faulted => r.recorded s := by
  have hmotion : ((r.recorded s).fader r.fader).motion = m := by rw [r.recorded_fader]; exact hm
  have hmoves : r.Moves s := ⟨htouch, hrun, hinhibit, hsupply, by
    rw [hm]
    rcases hfree with rfl | hfree
    · decide
    · refine ⟨?_, ?_, ?_⟩ <;> (rintro rfl; exact absurd hfree (by decide))⟩
  rw [hmoves.accept, State.acceptMotion, hmotion]
  cases m <;> rfl

/-- Of two classes, the one of the lower code (R27). -/
theorem ReqClass.higher_eq (a b : ReqClass) : a.higher b = if b.code < a.code then b else a := rfl

/-- Settles O14: within the deadband an immediate Arrived, else an entry; and an entry changed in place. -/
theorem requestsThatWait : Obligations.RequestsThatWait := by
  unfold Obligations.RequestsThatWait
  intro s r x c target y htouch hrun hinhibit hsupply
  have haccept := fun m => Request.accept_of_motion (m := m) htouch hrun hinhibit hsupply
  have hraw : s.slotFor r.fader = none → (r.recorded s).targetRaw r.fader = target := fun hno =>
    Request.recorded_targetRaw fun i sl h => absurd (hno.symm.trans h) (by simp)
  have hwithin : s.slotFor r.fader = none → (within ((r.recorded s).fader r.fader).setup.deadband
      ((r.recorded s).targetRaw r.fader) ((r.recorded s).fader r.fader).raw = true ↔
        ((target : Int) - x.raw).natAbs ≤ x.setup.deadband) := fun hno => by
    rw [hraw hno, r.recorded_fader, within_iff]; rfl
  refine ⟨fun hm hno hnear => ?_, fun hm hno hfar => ?_, fun e hm he => ?_⟩
  · rw [haccept .idle hm (.inl rfl)]
    simp only [State.acceptIdle]
    rw [if_pos ((hwithin hno).mpr hnear), r.recorded_takeOn, State.complete, State.setFader_fader_self]
    rfl
  · rw [haccept .idle hm (.inl rfl)]
    simp only [State.acceptIdle]
    rw [if_neg (mt (hwithin hno).mp (not_le.mpr hfar)), r.recorded_takeOn, State.joinQueue, State.modFader_setFader]
    rfl
  · rw [haccept .waiting hm (.inr rfl)]
    simp only [State.acceptWaiting, r.recorded_entryFor, he, ReqClass.higher_eq]
    have hf : e.fader = r.fader := by simpa using List.find?_some he
    rw [r.recorded_takeOn]
    simp only [hf, State.replaceEntry_eq _ rfl]
    rfl

/-- Settles O15: a superseded move, a hold that returns to Moving, a homing before and in its Park. -/
theorem requestsInASlot : Obligations.RequestsInASlot := by
  unfold Obligations.RequestsInASlot
  intro s r i sl x c y target parked htouch hrun hinhibit hsupply hslot hmotion
  have haccept := fun m => Request.accept_of_motion (m := m) htouch hrun hinhibit hsupply
  have hfader := r.recorded_fader s
  have hraw : sl.use ≠ .homing → (r.recorded s).targetRaw r.fader = target := fun huse =>
    Request.recorded_targetRaw fun j sl' h => by
      obtain ⟨-, rfl⟩ : j = i ∧ sl' = sl := by simpa using (h.symm.trans hslot)
      exact fun hu => huse hu.1
  refine ⟨fun huse => ?_, fun huse => ?_, fun huse hphase => ?_, fun huse hphase => ?_⟩
  · have hm : x.motion = .moving := by rw [hmotion, huse]; rfl
    have hy : { y with cls := r.cls, tag := r.tag, motion := .moving } = { y with cls := r.cls, tag := r.tag } := by
      rw [← hm]
    rw [haccept .moving hm (.inr rfl), ← hy]
    simp only [State.acceptDriven, r.recorded_slotFor, hslot, hraw (by simp [huse]), r.recorded_takeOn, hfader]
    rw [if_neg (by simp [huse])]
    exact s.modFader_setSlot_setFader ..
  · rw [haccept .holding (by rw [hmotion, huse]; rfl) (.inr rfl)]
    simp only [State.acceptDriven, r.recorded_slotFor, hslot, hraw (by simp [huse]), r.recorded_takeOn, hfader]
    rw [if_pos huse]
    exact s.modFader_setSlot_setFader ..
  · rw [haccept .homing (by rw [hmotion, huse]; rfl) (.inr rfl)]
    simp only [State.acceptHoming, r.recorded_slotFor, hslot, if_neg hphase]
    exact s.modFader_setSlot_setFader ..
  · rw [haccept .homing (by rw [hmotion, huse]; rfl) (.inr rfl)]
    simp only [State.acceptHoming, r.recorded_slotFor, hslot, if_pos hphase,
      Request.recorded_targetRaw_park hslot huse hphase, hfader]
    exact s.modFader_setSlot_setFader ..

end Sys2Proof.Machine
end

section
/-! The words of the image as lists of fields (section 12): what bits a packed word has, and that it holds its fields. -/

namespace Sys2Proof.Machine

theorem putNat_getLsbD (start len n k : Nat) :
    (putNat start len n).getLsbD k = (decide (k < 32) && decide (start ≤ k) && decide (k - start < len) &&
      n.testBit (k - start)) := by
  simp only [putNat, BitVec.getLsbD_shiftLeft, BitVec.getLsbD_setWidth, BitVec.getLsbD_ofNat]
  by_cases hk : k < 32 <;> by_cases hs : start ≤ k <;> simp [hk, hs, Nat.not_lt.mpr]
  omega

theorem fieldNat_testBit (v : Word) (start len i : Nat) :
    (fieldNat v start len).testBit i = (decide (i < len) && v.getLsbD (start + i)) := by
  rw [fieldNat, BitVec.testBit_toNat, BitVec.getLsbD_extractLsb']

/-- A mask keeps one field. -/
theorem and_putNat_ones (v : Word) (start len : Nat) :
    v &&& putNat start len (2 ^ len - 1) = putNat start len (fieldNat v start len) := by
  refine BitVec.eq_of_getLsbD_eq fun k hk => ?_
  rw [BitVec.getLsbD_and, putNat_getLsbD, putNat_getLsbD, fieldNat_testBit, Nat.testBit_two_pow_sub_one]
  by_cases hs : start ≤ k
  · by_cases hl : k - start < len <;> simp [hk, hs, hl]
  · simp [hs]

/-- A signed field holds the two's complement code of its number. -/
theorem putInt_eq_putNat (start len : Nat) (z : Int) : putInt start len z = putNat start len (twos len z) := by
  unfold putInt putNat twos
  congr 2
  apply BitVec.eq_of_toNat_eq
  rw [BitVec.toNat_ofInt, BitVec.toNat_ofNat]
  have hpos : (0 : Int) < 2 ^ len := by positivity
  have hlt : (z % 2 ^ len).toNat < 2 ^ len := by
    have := Int.emod_lt_of_pos z hpos
    zify; rw [Int.toNat_of_nonneg (Int.emod_nonneg _ hpos.ne')]; exact this
  rw [Nat.mod_eq_of_lt hlt]
  push_cast
  rfl

/-! ### A word packed from its fields -/

/-- The word that holds the given fields (start, length, value), and 0 elsewhere. -/
def packed : List (Nat × Nat × Nat) → Word
  | [] => 0
  | e :: l => putNat e.1 e.2.1 e.2.2 ||| packed l

/-- Two fields of a word that have no bit in common. -/
def Apart (d e : Nat × Nat × Nat) : Prop :=
  d.1 + d.2.1 ≤ e.1 ∨ e.1 + e.2.1 ≤ d.1

/-- Fields that lie in a word, no two with a bit in common. -/
def Layout (l : List (Nat × Nat × Nat)) : Prop :=
  (∀ e ∈ l, e.1 + e.2.1 ≤ 32) ∧ l.Pairwise Apart

theorem packed_getLsbD_outside {l : List (Nat × Nat × Nat)} {k : Nat} (h : ∀ e ∈ l, k < e.1 ∨ e.1 + e.2.1 ≤ k) :
    (packed l).getLsbD k = false := by
  induction l with
  | nil => exact BitVec.getLsbD_zero
  | cons d l ih =>
    rw [packed, BitVec.getLsbD_or, ih fun e he => h e (List.mem_cons_of_mem _ he), putNat_getLsbD]
    rcases h d List.mem_cons_self with hd | hd
    · simp [Nat.not_le.mpr hd]
    · simp; omega

theorem packed_getLsbD_inside {l : List (Nat × Nat × Nat)} (hl : Layout l) {e : Nat × Nat × Nat} (he : e ∈ l) {i : Nat}
    (hi : i < e.2.1) : (packed l).getLsbD (e.1 + i) = e.2.2.testBit i := by
  induction l with
  | nil => simp at he
  | cons d l ih =>
    obtain ⟨hin, hap⟩ := hl
    obtain ⟨hd, hap⟩ := List.pairwise_cons.mp hap
    have hbound := hin e he
    rw [packed, BitVec.getLsbD_or]
    rcases List.mem_cons.mp he with rfl | he
    · rw [packed_getLsbD_outside fun g hg => ?_, putNat_getLsbD]
      · simp [hi]; omega
      · have := hd g hg; unfold Apart at this; omega
    · rw [ih ⟨fun g hg => hin g (List.mem_cons_of_mem _ hg), hap⟩ he, putNat_getLsbD]
      have := hd e he
      unfold Apart at this
      have : ¬(d.1 ≤ e.1 + i ∧ e.1 + i - d.1 < d.2.1) := by omega
      by_cases h1 : d.1 ≤ e.1 + i <;> by_cases h2 : e.1 + i - d.1 < d.2.1 <;> simp [h1, h2] at this ⊢

theorem holdsFields_packed {l : List (Nat × Nat × Nat)} (hl : Layout l) : holdsFields (packed l) l := by
  refine ⟨fun e he hlt => Nat.eq_of_testBit_eq fun i => ?_, fun k => packed_getLsbD_outside⟩
  rw [fieldNat_testBit]
  by_cases hi : i < e.2.1
  · rw [packed_getLsbD_inside hl he hi]; simp [hi]
  · simp [hi, Nat.testBit_lt_two_pow (hlt.trans_le (Nat.pow_le_pow_right (by decide) (not_lt.mp hi)))]

theorem holdsFields_of_packed {v : Word} {l : List (Nat × Nat × Nat)} (h : v = packed l) (hl : Layout l) :
    holdsFields v l := h ▸ holdsFields_packed hl

end Sys2Proof.Machine
end

section
/-! A write of a fader's control word (R7, R35, R156): O16 and O17. -/

namespace Sys2Proof.Machine

/-! ### The word that a control write leaves -/

/-- The mode field that is written back: code 3 is 0, which is Manual (R7). -/
theorem putNat_mode_code (m : BitVec 2) : putNat 0 2 (Mode.ofCode m.toNat).code =
    if putNat 0 2 m.toNat = 3 then 0 else putNat 0 2 m.toNat := by
  revert m
  decide

theorem fieldFlag_toNat (v : Word) (k : Nat) : (fieldFlag v k).toNat = fieldNat v k 1 := by
  have hfield : v.extractLsb' k 1 = BitVec.ofBool (v.getLsbD k) :=
    BitVec.eq_of_getLsbD_eq fun i hi => by
      obtain rfl : i = 0 := by omega
      simp
  rw [fieldNat, hfield, BitVec.toNat_ofBool]
  rfl

/-- The fields taken from a control word, written back: reserved bits 0, and mode code 3 as Manual (R7, R161). -/
theorem ControlFields.ofWord_toWord (v : Word) :
    (ControlFields.ofWord v).toWord = (v &&& 0x0003FF00) ||| if v &&& 3 = 3 then 0 else v &&& 3 := by
  have hmode : v &&& 3 = putNat 0 2 (fieldNat v 0 2) := and_putNat_ones v 0 2
  have hrest : v &&& 0x0003FF00 = putNat 8 8 (fieldNat v 8 8) ||| putNat 16 1 (fieldNat v 16 1) |||
      putNat 17 1 (fieldNat v 17 1) := by
    rw [← and_putNat_ones, ← and_putNat_ones, ← and_putNat_ones, ← BitVec.and_or_distrib_left,
      ← BitVec.and_or_distrib_left]
    rfl
  have hcode : putNat 0 2 (Mode.ofCode (fieldNat v 0 2)).code =
      if putNat 0 2 (fieldNat v 0 2) = 3 then 0 else putNat 0 2 (fieldNat v 0 2) := putNat_mode_code (v.extractLsb' 0 2)
  rw [hmode, hrest, BitVec.or_comm]
  simp only [ControlFields.toWord, ControlFields.ofWord, putFlag, fieldFlag_toNat, BitVec.or_assoc, hcode]
  rfl

/-! ### What a control write takes -/

/-- A control word write is the take of its fields, which are written back. -/
theorem State.writes_control {s : State} (hr : s.bus.inReset = false) (f : FaderId) (l : Lanes) :
    s.writes (.controlWrite f l) (0x1000 + 0x40 * f.val + 0x24)
      (Lanes.full (ControlFields.ofWord (l.merge (s.fader f).control.toWord)).toWord)
      (s.takeControl f (ControlFields.ofWord (l.merge (s.fader f).control.toWord))) :=
  have hframe := MotionFrame.takeControl s f (ControlFields.ofWord (l.merge (s.fader f).control.toWord))
  State.writes_of_rewrite (w := .control f) (congrArg State.done (State.onBus_live hr ..)) hframe.mem hframe.imageBase

theorem State.takeControl_inhibits {s : State} {f : FaderId} {c : ControlFields} (hc : c.inhibit = true)
    (hx : (s.fader f).inhibit = false) :
    s.takeControl f c = ((s.setFader f ((s.fader f).controlled c)).endService f .inhibited).arbitrate := by
  have : (c.inhibit && !(s.fader f).inhibit) = true := by rw [hc, hx]; rfl
  simp only [State.takeControl, this, if_true]
  rfl

theorem State.takeControl_serves {s : State} {f : FaderId} {c : ControlFields} (h : c.inhibit = true → (s.fader f).inhibit = true) :
    s.takeControl f c = s.setFader f ((s.fader f).controlled c) := by
  have : (c.inhibit && !(s.fader f).inhibit) = false := by cases hc : c.inhibit <;> simp_all
  simp only [State.takeControl, this]
  rfl

/-- Settles O16: the take of the fields is the whole effect. -/
theorem controlWriteTakesFields : Obligations.ControlWriteTakesFields := by
  unfold Obligations.ControlWriteTakesFields
  intro f l s hr x v mode hinhibit
  have hw := State.writes_control hr f l
  rw [State.takeControl_serves hinhibit, ControlFields.ofWord_toWord] at hw
  exact hw

/-- Settles O17: the fields are taken, then the fader's service ends, as the ownership invariant lets one say. -/
theorem inhibitEndsService : Obligations.InhibitEndsService := by
  unfold Obligations.InhibitEndsService
  intro f l s hr hs x v mode hset hclear
  have hw := State.writes_control hr f l
  have howned : (s.setFader f (x.controlled (ControlFields.ofWord v))).owned :=
    State.owned_modFader hs f (g := fun x => x.controlled (ControlFields.ofWord v)) rfl
  rw [State.takeControl_inhibits hset hclear, ControlFields.ofWord_toWord, State.endService_eq howned] at hw
  have hcontrolled : x.controlled (ControlFields.ofWord v) = { x with
      mode := mode, groups := v.extractLsb' 8 8, latched := fieldFlag v 16, inhibit := true } := by
    rw [← hset]; rfl
  rw [← hcontrolled]
  exact hw

end Sys2Proof.Machine
end

section
/-! Writes and reads of the global setup words (R10, R56, R60, R76, R96, R147, R149): O20. -/

namespace Sys2Proof.Machine

/-! ### The first attention level word -/

theorem foldl_or_putNat {α : Type} (l : List α) (field : α → Nat × Nat × Nat) (w : Word) :
    l.foldl (fun acc a => acc ||| putNat (field a).1 (field a).2.1 (field a).2.2) w = w ||| packed (l.map field) := by
  induction l generalizing w with
  | nil => exact BitVec.or_zero.symm
  | cons a l ih => rw [List.foldl_cons, ih, List.map_cons, packed, BitVec.or_assoc]

/-- The fields of the first attention level word (section 12.3). -/
def levelFields (levels : Vector Nat 8) : List (Nat × Nat × Nat) :=
  (List.finRange 8).map fun i => (4 * i.val, 4, levels[i])

theorem levelsWord_eq_packed (levels : Vector Nat 8) : levelsWord levels = packed (levelFields levels) :=
  (foldl_or_putNat _ (fun i : Fin 8 => (4 * i.val, 4, levels[i])) 0).trans BitVec.zero_or

theorem layout_levelFields (levels : Vector Nat 8) : Layout (levelFields levels) := by
  refine ⟨fun e he => ?_, List.pairwise_map.mpr ((List.nodup_finRange 8).imp fun {i j} hij => ?_)⟩
  · obtain ⟨i, -, rfl⟩ := List.mem_map.mp he
    have := i.isLt
    dsimp only
    omega
  · have : i.val ≠ j.val := fun h => hij (Fin.ext h)
    unfold Apart
    dsimp only
    omega

theorem fieldNat_levelsWord (levels : Vector Nat 8) (i : Fin 8) :
    fieldNat (levelsWord levels) (4 * i.val) 4 = levels[i] % 16 := by
  refine Nat.eq_of_testBit_eq fun k => ?_
  rw [fieldNat_testBit, levelsWord_eq_packed, show (16 : Nat) = 2 ^ 4 from rfl, Nat.testBit_mod_two_pow]
  by_cases hk : k < 4
  · have hmem : (4 * i.val, 4, levels[i]) ∈ levelFields levels := List.mem_map.mpr ⟨i, List.mem_finRange i, rfl⟩
    rw [packed_getLsbD_inside (layout_levelFields levels) hmem hk]
  · simp [hk]

/-- A word is its eight fields of four bits. -/
theorem Word.eq_of_nibbles {v w : Word} (h : ∀ i : Fin 8, fieldNat v (4 * i.val) 4 = fieldNat w (4 * i.val) 4) : v = w := by
  refine BitVec.eq_of_getLsbD_eq fun k hk => ?_
  have hbit := congrArg (fun n => Nat.testBit n (k % 4)) (h ⟨k / 4, by omega⟩)
  simp only [fieldNat_testBit] at hbit
  simpa [show k % 4 < 4 by omega, Nat.div_add_mod] using hbit

theorem clampNat_zero (hi n : Nat) : clampNat 0 hi n = min hi n :=
  Nat.zero_max _

theorem takeLevels_eq (v : Word) : takeLevels v = Vector.ofFn fun i => min 7 (fieldNat v (4 * i.val) 4) := by
  simp only [takeLevels, clampNat_zero]

/-! ### A setup word written and read -/

/-- A setup word write takes the merged word and writes back the values taken (R156). -/
theorem State.writes_setup {s : State} (hr : s.bus.inReset = false) (w : SetupWord) (l : Lanes) :
    let t := s.takeSetup w (l.merge (s.setupWordValue w))
    s.writes (.setupWrite w l) (ImageWord.setup w).offset (Lanes.full (t.setupWordValue w)) t :=
  State.writes_of_rewrite (w := .setup w) (congrArg State.done (State.onBus_live hr ..))
    (by cases w <;> rfl) (by cases w <;> rfl)

/-- A read of a setup word whose value in force is packed from the given fields. -/
theorem State.reads_setup {s : State} {w : SetupWord} {l : List (Nat × Nat × Nat)} (hv : s.setupWordValue w = packed l)
    (hl : Layout l) : s.reads (.setup w) l :=
  ⟨_, rfl, holdsFields_of_packed hv hl⟩

/-- A read of a setup word with one field. -/
theorem State.reads_setup_one {s : State} {w : SetupWord} (a m x : Nat) (hv : s.setupWordValue w = putNat a m x)
    (h : a + m ≤ 32) : s.reads (.setup w) [(a, m, x)] :=
  State.reads_setup (hv.trans BitVec.or_zero.symm) ⟨by simpa using h, List.pairwise_singleton ..⟩

/-- A read of a setup word with two fields, the lower one first. -/
theorem State.reads_setup_two {s : State} {w : SetupWord} (a m x b n y : Nat)
    (hv : s.setupWordValue w = putNat a m x ||| putNat b n y) (hab : a + m ≤ b) (h : b + n ≤ 32) :
    s.reads (.setup w) [(a, m, x), (b, n, y)] := by
  refine State.reads_setup (by simp [hv, packed]) ⟨?_, ?_⟩
  · simp only [List.mem_cons, List.not_mem_nil, or_false, forall_eq_or_imp, forall_eq]; omega
  · simpa [Apart] using .inl hab

/-- A write of the first attention level word, for the words that its eight fields determine (R147). -/
theorem State.writes_levelsFirst {s : State} (hr : s.bus.inReset = false) (l : Lanes) {old v w : Word}
    (hold : ∀ i : Fin 8, fieldNat old (4 * i.val) 4 = s.attn.levels[i] % 16) (hv : v = l.merge old)
    (hw : ∀ i : Fin 8, fieldNat w (4 * i.val) 4 = min 7 (fieldNat v (4 * i.val) 4)) :
    s.writes (.setupWrite .levelsFirst l) 0x070 (Lanes.full w)
      { s with attn := { s.attn with levels := Vector.ofFn fun i => min 7 (fieldNat v (4 * i.val) 4) } } := by
  obtain rfl : old = levelsWord s.attn.levels := Word.eq_of_nibbles fun i => by rw [hold, fieldNat_levelsWord]
  have hwrites := State.writes_setup hr .levelsFirst l
  have htaken : s.takeSetup .levelsFirst (l.merge (s.setupWordValue .levelsFirst)) =
      { s with attn := { s.attn with levels := Vector.ofFn fun i => min 7 (fieldNat v (4 * i.val) 4) } } := by
    rw [hv, ← takeLevels_eq]; rfl
  obtain rfl : w = levelsWord (Vector.ofFn fun i => min 7 (fieldNat v (4 * i.val) 4)) := Word.eq_of_nibbles fun i => by
    have hlt : min 7 (fieldNat v (4 * i.val) 4) < 16 := by omega
    rw [hw, fieldNat_levelsWord]
    simp [Nat.mod_eq_of_lt hlt]
  rw [htaken] at hwrites
  exact hwrites

/-- Settles O20: each word is merged, taken and written back, and reads as the packed values in force. -/
theorem globalSetupWritesClamp : Obligations.GlobalSetupWritesClamp := by
  unfold Obligations.GlobalSetupWritesClamp
  intro l s hr
  have hwrite := fun w => State.writes_setup hr w l
  refine ⟨hwrite .stallSetup, hwrite .moveLimit, hwrite .homingA, hwrite .homingB, hwrite .touchSetup, hwrite .cutPosition,
    hwrite .lateLimit, fun old v w hold hv hw => State.writes_levelsFirst hr l hold hv hw, hwrite .levelsSecond,
    hwrite .attentionControl, State.reads_setup_two 0 4 8 4 4 9 rfl ?_ ?_, State.reads_setup_two _ _ _ _ _ _ rfl ?_ ?_,
    State.reads_setup_one _ _ _ rfl ?_, State.reads_setup_two _ _ _ _ _ _ rfl ?_ ?_,
    State.reads_setup_two _ _ _ _ _ _ rfl ?_ ?_, State.reads_setup_two _ _ _ _ _ _ rfl ?_ ?_,
    State.reads_setup_one _ _ _ rfl ?_, State.reads_setup_one _ _ _ rfl ?_,
    State.reads_setup (levelsWord_eq_packed _) (layout_levelFields _), State.reads_setup_one _ _ _ rfl ?_⟩
  all_goals omega

end Sys2Proof.Machine
end

section
/-! The record snapshot that a present gain read takes, and the live words it covers (R22, section 12.2): O32. -/

namespace Sys2Proof.Machine

/-! ### The fields of the live words -/

theorem Fader.positionWord_fields (x : Fader) :
    holdsFields x.positionWord [(0, 12, x.raw), (16, 10, x.perMille), (31, 1, x.stale.toNat)] :=
  holdsFields_of_packed (by simp [packed, Fader.positionWord, putFlag, BitVec.or_assoc]) (by simp [Layout, Apart])

theorem Fader.stateWord_fields (x : Fader) :
    holdsFields x.stateWord [(0, 4, x.motion.code), (4, 2, x.touch.code), (8, 1, x.inhibit.toNat),
      (9, 1, x.latched.toNat), (10, 1, x.offTarget.toNat), (11, 1, x.rangeClamped.toNat), (12, 1, x.roundedUp.toNat)] :=
  holdsFields_of_packed (by simp [packed, Fader.stateWord, putFlag, BitVec.or_assoc]) (by simp [Layout, Apart])

theorem Fader.pendingWordA_fields {x : Fader} {p : PendingTarget} (h : x.pendingTarget = some p) :
    holdsFields x.pendingWordA [(0, 16, twos 16 p.gain.code), (16, 2, p.cls.code), (18, 1, p.marks.late.toNat),
      (19, 1, p.marks.undo.toNat), (31, 1, 1)] :=
  holdsFields_of_packed (by simp [packed, Fader.pendingWordA, h, putFlag, putInt_eq_putNat, BitVec.or_assoc])
    (by simp [Layout, Apart])

theorem Fader.pendingWordB_fields {x : Fader} {p : PendingTarget} (h : x.pendingTarget = some p) :
    holdsFields x.pendingWordB [(0, 16, p.tag.toNat), (16, 13, p.ramp)] :=
  holdsFields_of_packed (by simp [packed, Fader.pendingWordB, h]) (by simp [Layout, Apart])

theorem Fader.targetPositionWord_fields (x : Fader) : holdsFields x.targetPositionWord [(0, 10, x.targetPos)] :=
  holdsFields_of_packed (by simp [packed, Fader.targetPositionWord]) (by simp [Layout])

theorem Calibration.word_fields (c : Calibration) :
    holdsFields c.word [(0, 12, c.low), (12, 12, c.high), (24, 1, c.calibrated.toNat), (25, 1, c.latched.toNat),
      (28, 3, c.cause.code)] :=
  holdsFields_of_packed (by simp [packed, Calibration.word, putFlag, BitVec.or_assoc]) (by simp [Layout, Apart])

theorem Fader.tagWord_fields (x : Fader) : holdsFields x.tagWord [(0, 16, x.tag.toNat), (16, 2, x.cls.code)] :=
  holdsFields_of_packed (by simp [packed, Fader.tagWord]) (by simp [Layout, Apart])

/-! ### What the snapshot covers (R22) -/

/-- The live words of a fader read as those of a record. -/
def State.readsLive (u : State) (g : FaderId) (x : Fader) : Prop :=
  u.overlay (.presentPosition g) = some x.positionWord ∧ u.overlay (.faderState g) = some x.stateWord ∧
    u.overlay (.pendingA g) = some x.pendingWordA ∧ u.overlay (.pendingB g) = some x.pendingWordB ∧
    u.overlay (.targetPosition g) = some x.targetPositionWord ∧ u.overlay (.calibration g) = some x.cal.word ∧
    u.overlay (.faderTag g) = some x.tagWord

theorem State.readsLive_of_uncovered {u : State} {g : FaderId} (h : ∀ n, u.bus.snapshot = some n → n.fader ≠ g) :
    u.readsLive g (u.fader g) := by
  have hlive : ∀ (copied : Snapshot → Word) (v : Word), u.covered g copied v = v := fun copied v => by
    unfold State.covered
    split
    · rfl
    · next n hn => exact if_neg (h n hn)
  simp only [State.readsLive, State.overlay, hlive, and_self]

theorem State.readsLive_of_snapshot {s u : State} {f : FaderId} (h : u.bus.snapshot = some (s.snapshotOf f)) :
    u.readsLive f (s.fader f) := by
  have hcopied : ∀ (copied : Snapshot → Word) (v : Word), u.covered f copied v = copied (s.snapshotOf f) := fun copied v => by
    unfold State.covered
    rw [h]
    exact if_pos rfl
  simp only [State.readsLive, State.overlay, hcopied]
  exact ⟨rfl, rfl, rfl, rfl, rfl, rfl, rfl⟩

/-- What a read of a present gain word answers (R4, R22). -/
theorem exec_presentGainRead {s : State} (hr : s.bus.inReset = false) (f : FaderId) :
    exec (.presentGainRead f) s = .next (State.driveAttn { s with bus := { s.bus with
      readData := Lanes.full (s.presentGainWord f), snapshot := some (s.snapshotOf f) } }) :=
  congrArg State.done (State.readWord_live hr (w := .presentGain f) rfl _)

/-- Settles O32: the read's answer, what the snapshot covers, and the fields of each live word. -/
theorem presentGainReadTakesSnapshot : Obligations.PresentGainReadTakesSnapshot := by
  unfold Obligations.PresentGainReadTakesSnapshot
  refine ⟨fun f s hr => ?_, fun x => ?_, by decide⟩
  · have hother : ∀ {u : State} {g : FaderId}, u.bus.snapshot = some (s.snapshotOf f) → g ≠ f → u.readsLive g (u.fader g) :=
      fun {u g} hu hg => State.readsLive_of_uncovered fun n hn => by
        obtain rfl : s.snapshotOf f = n := Option.some.inj (hu.symm.trans hn)
        exact hg.symm
    exact ⟨_, exec_presentGainRead hr f, rfl, ⟨_, rfl⟩,
      fun u hu => ⟨State.readsLive_of_snapshot hu, fun g hg => hother hu hg⟩,
      fun u g hu => State.readsLive_of_uncovered fun n hn => absurd (hu.symm.trans hn) (by simp)⟩
  · exact ⟨x.positionWord_fields, x.stateWord_fields, fun h => by simp [Fader.pendingWordA, Fader.pendingWordB, h],
      fun p h => ⟨Fader.pendingWordA_fields h, Fader.pendingWordB_fields h⟩, x.targetPositionWord_fields,
      x.cal.word_fields, x.tagWord_fields⟩

end Sys2Proof.Machine
end

section
/-! Restart (R23, R39): O24. -/

namespace Sys2Proof.Machine

/-! ### The attention line with nothing pending (R150) -/

/-- With no completion, no moved fader and no event there is no pending source. -/
theorem State.sourcePending_of_nothing {s : State} (hc : s.completions = []) (hm : ∀ f, (s.fader f).moved = false)
    (he : s.attn.events = EventFlags.clear) (n : Nat) : s.sourcePending n = false := by
  unfold State.sourcePending
  split
  · simp [State.completionPending, hc]
  · simp [State.manualPending, hm]
  · split
    · next e _ => rw [he]; cases e <;> rfl
    · rfl

theorem State.attnAsserted_of_nothing {s : State} (hc : s.completions = []) (hm : ∀ f, (s.fader f).moved = false)
    (he : s.attn.events = EventFlags.clear) : s.attnAsserted = false := by
  simp [State.attnAsserted, State.sourceAsserts, State.sourcePending_of_nothing hc hm he]

/-! ### Restart -/

/-- The motion state after Restart (R23). -/
theorem Fader.restartMotion_eq (x : Fader) : x.restartMotion = if x.motion.free then x.motion else x.cal.motion := by
  cases hm : x.motion <;> simp [Fader.restartMotion, MotionState.free, hm]

theorem State.restartCommand_fader_fields (s : State) (f : FaderId) :
    let x := s.fader f
    let p := s.unparkedPerMille f
    s.restartCommand.fader f = { x with
      targetGain := gainOfPerMille s.law p, targetPos := p, pendingTarget := none, inhibit := false,
      offTarget := false, rangeClamped := false, roundedUp := false,
      motion := if x.motion.free then x.motion else x.cal.motion, touch := .untouched, perMille := p, touchRun := 0,
      releaseRun := 0, guardTimer := 0, lastReported := gainOfPerMille s.law p, moved := false } := by
  dsimp only
  rw [s.restartCommand_fader, ← Fader.restartMotion_eq]
  rfl

/-- What Restart leaves of the state (R39): the parts that it empties or resets, and all others as they were. -/
theorem State.restartCommand_eq (s : State) : s.restartCommand = { s with
    bus := { s.bus with snapshot := none }
    faders := s.restartCommand.faders
    queue := { s.queue with run := .running, entries := [] }
    table := { s.table with slots := s.restartCommand.table.slots }
    cues := { s.cues with cues := [] }
    recalls := { s.recalls with history := [] }
    engine := { s.engine with meters := s.restartCommand.engine.meters }
    completions := []
    attn := { s.attn with quiet := 0, events := EventFlags.clear } } := by
  simp only [State.restartCommand, State.mapFaders]

theorem State.restartCommand_slot (s : State) (i : SlotId) : s.restartCommand.slot i = none := by
  obtain ⟨-, -, -, -, hslots⟩ := s.restartCommand_frame
  simp [State.slot, hslots]

/-- After Restart nothing is pending, so the line falls (R150, R153). -/
theorem State.restartCommand_quiet (s : State) (m : Memory) : State.attnAsserted { s.restartCommand with mem := m } = false :=
  State.attnAsserted_of_nothing (by rw [State.restartCommand_eq])
    (fun f => congrArg Fader.moved (s.restartCommand_fader f)) (by rw [State.restartCommand_eq])

/-- Settles O24: the state that Restart leaves, part by part. -/
theorem restartClearsMotionAndAutomation : Obligations.RestartClearsMotionAndAutomation := by
  unfold Obligations.RestartClearsMotionAndAutomation
  intro u s hr
  obtain ⟨m, hm, hexec⟩ : s.writes (.restart u) 0 (u.withCode 3) s.restartCommand :=
    State.writes_of_pulse (cw := .runControl) hr rfl (by rw [State.restartCommand_eq]) (by rw [State.restartCommand_eq]; rfl)
  rw [Nat.add_zero] at hm
  refine ⟨_, m, hexec, hm, ?_, s.restartCommand_slot, s.restartCommand_meter, s.restartCommand_fader_fields⟩
  have heq := s.restartCommand_eq
  have hquiet := s.restartCommand_quiet m
  generalize s.restartCommand = t at heq hquiet
  rw [State.driveAttn, hquiet]
  exact congrArg (fun u : State => { u with mem := m, attn := { u.attn with line := false } }) heq

end Sys2Proof.Machine
end

section
/-! What a frame of a bay leaves of a fader that its steps are not about, and the fields of its bytes (R131, R134, section 12.8):
the tools of O42. -/

namespace Sys2Proof.Machine

/-! ### A fader that steps pass by -/

theorem State.SameAt.trackedAt {s t : State} {f : FaderId} (h : s.SameAt t f) (hs : s.SoundAt f) (ht : s.TrackedAt f) :
    t.TrackedAt f := by
  unfold State.TrackedAt
  rw [hs.calInForce_congr h.slots (by rw [h.fader]) (by rw [h.fader]), h.fader]
  exact ht

/-- From `s` to `t` nothing of a fader changes, its completion records included. -/
structure State.Beside (s t : State) (f : FaderId) : Prop where
  same : s.SameAt t f
  records : t.recordsOf f = s.recordsOf f

theorem State.Beside.refl (s : State) (f : FaderId) : s.Beside s f :=
  ⟨.refl s f, rfl⟩

theorem State.Beside.trans {s t u : State} {f : FaderId} (h : s.Beside t f) (k : t.Beside u f) : s.Beside u f :=
  ⟨h.same.trans k.same, k.records.trans h.records⟩

theorem OnlyAt.beside {s t : State} {f g : FaderId} (h : OnlyAt g s t) (hne : f ≠ g) : s.Beside t f :=
  ⟨h.others f hne, h.records f hne⟩

/-- A fold of steps about other faders passes a fader by. -/
theorem foldl_beside {α : Type} {act : State → α → State} {F : α → FaderId} {l : List α}
    (honly : ∀ t a, OnlyAt (F a) t (act t a)) {f : FaderId} (h : ∀ a ∈ l, F a ≠ f) (s : State) :
    s.Beside (l.foldl act s) f := by
  induction l generalizing s with
  | nil => exact .refl s f
  | cons a rest ih =>
    exact ((honly s a).beside (h a List.mem_cons_self).symm).trans (ih (fun b hb => h b (List.mem_cons_of_mem _ hb)) _)

/-- A fold of steps about faders raises no event of a link. -/
theorem foldl_linkEvents {α : Type} {act : State → α → State} {F : α → FaderId} (honly : ∀ t a, OnlyAt (F a) t (act t a))
    (l : List α) (s : State) : (l.foldl act s).linkEvents = s.linkEvents := by
  induction l generalizing s with
  | nil => rfl
  | cons a rest ih => exact (ih _).trans (honly s a).link

/-- In a fold of steps about different faders the step about one fader is taken of a state in which that fader is as it was,
and is not undone. -/
theorem foldl_passes {α : Type} {act : State → α → State} {F : α → FaderId} {P : State → Prop} {l : List α} {s : State}
    (hnd : (l.map F).Nodup) (hP : ∀ t a, a ∈ l → P t → P (act t a)) (honly : ∀ t a, OnlyAt (F a) t (act t a)) (hs : P s)
    {a : α} (ha : a ∈ l) : ∃ u, P u ∧ s.Beside u (F a) ∧ (act u a).Beside (l.foldl act s) (F a) := by
  induction l generalizing s with
  | nil => simp at ha
  | cons b rest ih =>
    obtain ⟨hnb, hnr⟩ := List.nodup_cons.mp hnd
    rcases List.mem_cons.mp ha with rfl | hmem
    · exact ⟨s, hs, .refl s _, foldl_beside honly (fun c hc h => hnb (List.mem_map.mpr ⟨c, hc, h⟩)) _⟩
    · obtain ⟨u, hu, h1, h2⟩ := ih hnr (fun t c hc => hP t c (List.mem_cons_of_mem _ hc)) (hP s b List.mem_cons_self hs) hmem
      exact ⟨u, hu, ((honly s b).beside fun h => hnb (h ▸ List.mem_map_of_mem hmem)).trans h1, h2⟩

/-- From `s` to `t` a fader changes by decisions of the arbiter only, and no completion of it is written. -/
structure State.Aloof (s t : State) (f : FaderId) : Prop where
  record : ByArbiter (s.fader f) (t.fader f)
  records : t.recordsOf f = s.recordsOf f

theorem State.Aloof.trans {s t u : State} {f : FaderId} (h : s.Aloof t f) (k : t.Aloof u f) : s.Aloof u f :=
  ⟨h.record.trans k.record, k.records.trans h.records⟩

theorem State.Beside.aloof {s t : State} {f : FaderId} (h : s.Beside t f) : s.Aloof t f :=
  ⟨by rw [h.same.fader]; exact .same, h.records⟩

theorem Acts.aloof {P : Set FaderId} {s t : State} (h : Acts P s t) {f : FaderId} (hf : f ∉ P) : s.Aloof t f :=
  ⟨h.record f hf, h.records f hf⟩

/-! ### Folds over the fitted positions of a bay -/

/-- The faders of the fitted positions of a bay. -/
def State.fittedSet (s : State) (b : BayId) : Set FaderId :=
  { f | bayOf f = b ∧ (s.bay b).fits (positionOf f) = true }

theorem State.faderAt_mem_fittedSet {s : State} {b : BayId} {p : Position} (h : (s.bay b).fits p = true) :
    faderAt b p ∈ s.fittedSet b :=
  ⟨bayOf_faderAt b p, by rw [positionOf_faderAt]; exact h⟩

theorem State.fittedSet_congr {s t : State} (h : t.bays = s.bays) (b : BayId) : t.fittedSet b = s.fittedSet b := by
  simp only [State.fittedSet, State.bay, h]

/-- A fold of actions over the fitted positions of a Present bay is an action on their faders. -/
theorem State.forFitted_acts {s : State} (hs : s.Sound) {b : BayId} (hb : (s.bay b).state = .present)
    {act : State → Position → State} (hframe : ∀ t p, MotionFrame t (act t p))
    (h : ∀ (t : State) p, t.Sound → (t.fader (faderAt b p)).motion ≠ .absent → Acts {faderAt b p} t (act t p)) :
    Acts (s.fittedSet b) s (s.forFitted b act) := by
  have key : ∀ (l : List Position) (t : State), t.Sound → t.bays = s.bays →
      Acts (s.fittedSet b) t (l.foldl (fun t p => if (s.bay b).fits p then act t p else t) t) := by
    intro l
    induction l with
    | nil => exact fun t ht _ => .refl ht
    | cons p rest ih =>
      intro t ht hbays
      rw [List.foldl_cons]
      split
      · next hfit =>
        have hna : (t.fader (faderAt b p)).motion ≠ .absent := (ht _).ne_absent_of_onBay (by
          rw [State.onBay_congr hbays, State.onBay_faderAt, hb, hfit]; rfl)
        have h1 : Acts (s.fittedSet b) t (act t p) :=
          (h t p ht hna).mono (Set.singleton_subset_iff.mpr (State.faderAt_mem_fittedSet hfit))
        exact h1.trans (ih _ h1.sound ((hframe t p).bays.trans hbays))
      · exact ih t ht hbays
  exact key _ s hs rfl

/-- A fold over the fitted positions of a bay is one over the positions that fit. -/
theorem State.forFitted_eq_foldl {s : State} {b : BayId} {fits : Position → Bool} (h : ∀ p, (s.bay b).fits p = fits p)
    (act : State → Position → State) : s.forFitted b act = ((List.finRange 8).filter fits).foldl act s := by
  rw [List.foldl_filter]
  simp only [State.forFitted, h]

theorem nodup_faderAt_filter (b : BayId) (fits : Position → Bool) :
    (((List.finRange 8).filter fits).map (faderAt b)).Nodup :=
  (List.filter_sublist.map (faderAt b)).nodup (nodup_faderAt b)

/-- Two folds whose steps are the same in the states that are reached. -/
theorem foldl_congr_of {α β : Type} {act act' : β → α → β} {P : β → Prop} {l : List α} {s : β} (hs : P s)
    (h : ∀ t a, a ∈ l → P t → act t a = act' t a ∧ P (act t a)) : l.foldl act s = l.foldl act' s := by
  induction l generalizing s with
  | nil => rfl
  | cons a rest ih =>
    obtain ⟨heq, hP⟩ := h s a List.mem_cons_self hs
    rw [List.foldl_cons, List.foldl_cons, ← heq]
    exact ih hP fun t b hb => h t b (List.mem_cons_of_mem _ hb)

/-! ### The bytes of a good frame -/

/-- Two bytes of a position as its raw position (section 12.8). -/
theorem senseEntry_raw (bytes : List Byte) (p : Position) : (senseEntry bytes p).raw =
    (bytes.getD (2 + 2 * p.val) 0).toNat + 256 * ((bytes.getD (3 + 2 * p.val) 0).toNat % 16) := by
  simp only [senseEntry, BitVec.toNat_append, BitVec.extractLsb'_toNat, Nat.shiftRight_zero]
  rw [← Nat.shiftLeft_add_eq_or_of_lt (bytes.getD (2 + 2 * p.val) 0).isLt, Nat.shiftLeft_eq]
  omega

theorem foldl_mask_getLsbD (g : Position → Bool) (l : List Position) (m : BitVec 8) (k : Position) :
    (l.foldl (fun acc p => acc ||| (BitVec.ofNat 8 (g p).toNat <<< p.val)) m).getLsbD k.val =
      (m.getLsbD k.val || (decide (k ∈ l) && g k)) := by
  induction l generalizing m with
  | nil => simp
  | cons p rest ih =>
    have hbit : (BitVec.ofNat 8 (g p).toNat <<< p.val).getLsbD k.val = (decide (k = p) && g k) := by
      by_cases hkp : k = p
      · subst hkp
        cases g k <;> simp
      · have : k.val ≠ p.val := fun h => hkp (Fin.ext h)
        cases g p
        · simp [hkp]
        · simp [hkp]; omega
    rw [List.foldl_cons, ih, BitVec.getLsbD_or, hbit]
    by_cases hkp : k = p <;> by_cases hkr : k ∈ rest <;> cases m.getLsbD k.val <;> simp [hkp, hkr]

theorem senseFitted_getLsbD (bytes : List Byte) (p : Position) :
    (senseFitted bytes).getLsbD p.val = (senseEntry bytes p).fitted := by
  rw [senseFitted, foldl_mask_getLsbD fun p => (senseEntry bytes p).fitted]
  simp

/-- What a good frame is (R131). -/
theorem goodFrame_of {bytes : List Byte} {seq : Byte} (hlen : bytes.length = 20) (hstart : bytes[0]? = some 0xE6)
    (hsum : bytes.tail.foldl (· + ·) 0 = (0 : Byte)) (hseq : bytes[1]? = some seq) : goodFrame bytes seq = true := by
  have h0 : bytes.getD 0 0 = Config.senseStart := by rw [List.getD_eq_getElem?_getD, hstart]; rfl
  have h1 : bytes.getD 1 0 = seq := by rw [List.getD_eq_getElem?_getD, hseq]; rfl
  simp only [goodFrame, hlen, h0, byteSum, hsum, h1, decide_true, Bool.and_self]

end Sys2Proof.Machine
end

section
/-! The fitted step of a good frame, of a Present bay and of one that joins, as changes of single fitted bits (R135, R137). -/

namespace Sys2Proof.Machine

/-! ### A bay record and events set from outside -/

/-- A state with a bay record and the event flags replaced. -/
def State.withBay (s : State) (b : BayId) (y : Bay) (e : EventFlags) : State :=
  { s.setBay b y with attn := { s.attn with events := e } }

theorem State.withBay_withBay (s : State) (b : BayId) (x y : Bay) (d e : EventFlags) :
    (s.withBay b x d).withBay b y e = s.withBay b y e := by
  simp [State.withBay, State.setBay]

theorem State.withBay_bay_self (s : State) (b : BayId) (y : Bay) (e : EventFlags) : (s.withBay b y e).bay b = y :=
  s.setBay_bay_self b y

theorem State.modBay_eq_withBay (s : State) (b : BayId) (g : Bay → Bay) :
    s.modBay b g = s.withBay b (g (s.bay b)) s.attn.events := rfl

theorem State.withBay_fittedChanged (s : State) (b : BayId) (y : Bay) (e : EventFlags) (f : FaderId) (was now : Bool) :
    (s.withBay b y e).fittedChanged f was now = (s.fittedChanged f was now).withBay b y e := by
  unfold State.fittedChanged
  split
  · rfl
  · split <;> rfl

/-! ### The changes of all fitted bits of a bay -/

/-- The fitted bits of a bay change, position by position (R135, R137). -/
def State.fittedChanges (s : State) (b : BayId) (was now : Position → Bool) : State :=
  (List.finRange 8).foldl (fun t p => t.fittedChanged (faderAt b p) (was p) (now p)) s

theorem State.withBay_fittedChanges (s : State) (b : BayId) (y : Bay) (e : EventFlags) (was now : Position → Bool) :
    (s.withBay b y e).fittedChanges b was now = (s.fittedChanges b was now).withBay b y e := by
  unfold State.fittedChanges
  induction List.finRange 8 generalizing s with
  | nil => rfl
  | cons p rest ih => rw [List.foldl_cons, State.withBay_fittedChanged, ih]; rfl

theorem State.fittedChanged_bays_attn (s : State) (f : FaderId) (was now : Bool) :
    (s.fittedChanged f was now).bays = s.bays ∧ (s.fittedChanged f was now).attn = s.attn := by
  unfold State.fittedChanged
  split
  · exact ⟨rfl, rfl⟩
  · split <;> exact ⟨rfl, rfl⟩

theorem State.fittedChanges_bays_attn (s : State) (b : BayId) (was now : Position → Bool) :
    (s.fittedChanges b was now).bays = s.bays ∧ (s.fittedChanges b was now).attn = s.attn := by
  unfold State.fittedChanges
  induction List.finRange 8 generalizing s with
  | nil => exact ⟨rfl, rfl⟩
  | cons p rest ih =>
    obtain ⟨h1, h2⟩ := s.fittedChanged_bays_attn (faderAt b p) (was p) (now p)
    obtain ⟨k1, k2⟩ := ih (s.fittedChanged (faderAt b p) (was p) (now p))
    exact ⟨k1.trans h1, k2.trans h2⟩

/-- Changes of fitted bits, then of the bay record alone. -/
theorem State.fittedChanges_modBay (s : State) (b : BayId) (was now : Position → Bool) (g : Bay → Bay) :
    (s.fittedChanges b was now).modBay b g = (s.modBay b g).fittedChanges b was now := by
  obtain ⟨hbays, hattn⟩ := s.fittedChanges_bays_attn b was now
  have hbay : (s.fittedChanges b was now).bay b = s.bay b := by simp only [State.bay, hbays]
  rw [State.modBay_eq_withBay, State.modBay_eq_withBay, State.withBay_fittedChanges, hbay, hattn]

/-- The loss of an owned fader is the rule's (R136, R137). -/
theorem State.loseFader_eq {s : State} (hs : s.owned) (f : FaderId) : s.loseFader f = s.faderLost f := by
  rw [State.loseFader, State.endService_eq hs]; rfl

/-- The fitted step of one position is the change of its bit. -/
theorem State.fitPosition_eq {s : State} (hs : s.owned) (b : BayId) (was now : BitVec 8) (p : Position) :
    s.fitPosition b was now p = s.fittedChanged (faderAt b p) (was.getLsbD p.val) (now.getLsbD p.val) := by
  unfold State.fitPosition State.fittedChanged
  cases was.getLsbD p.val <;> cases now.getLsbD p.val
  · rfl
  · rfl
  · exact State.loseFader_eq hs _
  · rfl

/-- The fitted step of a Present bay (R137). -/
theorem State.refit_eq {s : State} (hs : s.Sound) (b : BayId) (bytes : List Byte) :
    s.refit b bytes = (s.modBay b fun x => { x with fitted := senseFitted bytes }).fittedChanges b
      (fun p => (s.bay b).fitted.getLsbD p.val) fun p => (senseFitted bytes).getLsbD p.val := by
  rw [← State.fittedChanges_modBay]
  exact congrArg (fun t => State.modBay t b _) (foldl_congr_of (P := fun t => t.FitReady b (s.bay b).fitted) (hs.fitReady b)
    fun t p _ ht => ⟨State.fitPosition_eq ht.owned b _ _ p, ht.fitPosition _ p⟩)

/-! ### The two ways into a frame that is taken -/

/-- The bay record with which a good frame begins that a Present or a joining bay takes (R131, R133, R135). -/
def Bay.begun (x : Bay) (bytes : List Byte) : Bay :=
  let joins := x.state = .joining ∧ 7 ≤ x.joinRun
  { x with
    window := .answered, state := .present, joinRun := if joins then 0 else x.joinRun, missRun := 0
    supplyFault := if joins then false else x.supplyFault, fitted := senseFitted bytes }

/-- The state in which a good frame begins that a Present or a joining bay takes. -/
def State.begun (s : State) (b : BayId) (bytes : List Byte) : State :=
  s.withBay b ((s.bay b).begun bytes) { s.attn.events with
    bayJoined := s.attn.events.bayJoined || decide ((s.bay b).state = .joining ∧ 7 ≤ (s.bay b).joinRun) }

/-- The state before the fitted step of a frame, of a Present bay or of one that has joined (R133, R134). -/
def State.ready (s : State) (b : BayId) (bytes : List Byte) : State :=
  let t := s.modBay b fun x => { x with window := .answered }
  (if (s.bay b).state = .present then t else t.joinBay b bytes).modBay b fun x => { x with missRun := 0 }

theorem State.ready_keeps {s : State} (hs : s.Sound) (b : BayId) (bytes : List Byte) : s.Keeps (s.ready b bytes) := by
  have h1 : s.Keeps (s.modBay b fun x => { x with window := .answered }) := State.modBay_keeps hs b Iff.rfl rfl rfl
  unfold State.ready
  dsimp only
  split
  · exact h1.trans (State.modBay_keeps h1.sound b Iff.rfl rfl rfl)
  · next h =>
    have h2 := h1.trans (State.joinBay_keeps h1.sound (b := b) (by rw [State.modBay_bay_self]; exact h) bytes)
    exact h2.trans (State.modBay_keeps h2.sound b Iff.rfl rfl rfl)

theorem State.ready_present (s : State) (b : BayId) (bytes : List Byte) : ((s.ready b bytes).bay b).state = .present := by
  unfold State.ready
  dsimp only
  rw [State.modBay_bay_self]
  split
  · next h => rw [State.modBay_bay_self]; exact h
  · rw [State.joinBay_state]

/-- Bits that do not change change nothing. -/
theorem State.fittedChanges_same (s : State) (b : BayId) (was : Position → Bool) : s.fittedChanges b was was = s := by
  have hsame : ∀ (t : State) (p : Position), t.fittedChanged (faderAt b p) (was p) (was p) = t := fun t p => by
    simp [State.fittedChanged]
  unfold State.fittedChanges
  induction List.finRange 8 with
  | nil => rfl
  | cons p rest ih => rw [List.foldl_cons, hsame]; exact ih

theorem State.fittedChanged_enters (s : State) (f : FaderId) (now : Bool) :
    s.fittedChanged f false now = if now then s.enterFader f else s := by
  cases now <;> rfl

/-- The faders of a bay that joins enter as those whose bit goes set (R135). -/
theorem State.enterFaders_eq (s : State) (b : BayId) :
    (s.forFitted b fun u p => u.enterFader (faderAt b p)) =
      s.fittedChanges b (fun _ => false) fun p => (s.bay b).fits p := by
  refine congrArg (fun act => (List.finRange 8).foldl act s) (funext fun t => funext fun p => ?_)
  exact (t.fittedChanged_enters _ _).symm

/-- Changes of fitted bits, then a join announced and the bay record changed. -/
theorem State.fittedChanges_joined (s : State) (b : BayId) (was now : Position → Bool) (g : Bay → Bay) :
    ((s.fittedChanges b was now).raise .bayJoined).modBay b g =
      (s.withBay b (g (s.bay b)) (s.attn.events.set .bayJoined true)).fittedChanges b was now := by
  obtain ⟨hbays, hattn⟩ := s.fittedChanges_bays_attn b was now
  have hbay : (s.fittedChanges b was now).bay b = s.bay b := by simp only [State.bay, hbays]
  rw [State.withBay_fittedChanges, ← hbay, ← hattn]
  rfl

/-- The fitted step of a frame that a Present or a joining bay takes: the bits change from what was Present and fitted. -/
theorem State.ready_refit {s : State} (hs : s.Sound) {b : BayId}
    (hgo : (s.bay b).state = .present ∨ (s.bay b).state = .joining ∧ 7 ≤ (s.bay b).joinRun) (bytes : List Byte) :
    (s.ready b bytes).refit b bytes = (s.begun b bytes).fittedChanges b
      (fun p => decide ((s.bay b).state = .present) && (s.bay b).fitted.getLsbD p.val)
      fun p => (senseFitted bytes).getLsbD p.val := by
  rw [State.refit_eq (State.ready_keeps hs b bytes).sound]
  by_cases hp : (s.bay b).state = .present
  · have hready : s.ready b bytes =
        (s.modBay b fun x => { x with window := .answered }).modBay b fun x => { x with missRun := 0 } := by
      simp only [State.ready, if_pos hp]
    have hbegun : (s.ready b bytes).modBay b (fun x => { x with fitted := senseFitted bytes }) = s.begun b bytes := by
      rw [hready]
      simp only [State.modBay_eq_withBay, State.withBay_withBay, State.withBay_bay_self]
      simp [State.begun, Bay.begun, hp]
      rfl
    have hfitted : ((s.ready b bytes).bay b).fitted = (s.bay b).fitted := by
      rw [hready]; simp only [State.modBay_bay_self]
    rw [hbegun, hfitted]
    simp only [hp, decide_true, Bool.true_and]
  · have hj := hgo.resolve_left hp
    have hready : s.ready b bytes =
        ((s.modBay b fun x => { x with window := .answered }).joinBay b bytes).modBay b fun x => { x with missRun := 0 } := by
      simp only [State.ready, if_neg hp]
    have hfitted : ((s.ready b bytes).bay b).fitted = senseFitted bytes := by
      rw [hready, State.modBay_bay_self, State.joinBay_state]
    rw [hfitted, State.fittedChanges_same]
    simp only [hp, decide_false, Bool.false_and]
    have hjoined : ((s.modBay b fun x => { x with window := .answered }).joinBay b bytes).modBay b
        (fun x => { x with missRun := 0 }) = (s.begun b bytes).fittedChanges b (fun _ => false) fun p =>
          (senseFitted bytes).getLsbD p.val := by
      unfold State.joinBay
      dsimp only
      rw [State.enterFaders_eq, State.fittedChanges_joined]
      simp only [State.modBay_eq_withBay, State.withBay_withBay, State.withBay_bay_self, Bay.fits]
      simp [State.begun, Bay.begun, hj]
      rfl
    rw [hready, hjoined, State.fittedChanges_modBay, State.begun, State.modBay_eq_withBay, State.withBay_withBay,
      State.withBay_bay_self]
    rfl

end Sys2Proof.Machine
end

section
/-! The steps of a good frame after the fitted step: supply, positions, and what follows from them (R134, R138, R139). -/

namespace Sys2Proof.Machine

/-! ### The steps by name -/

/-- The present positions of a bay are taken from a frame (R3). -/
def State.positioned (s : State) (b : BayId) (bytes : List Byte) : State :=
  s.forFitted b fun t p => t.takePosition (faderAt b p) (senseEntry bytes p).raw

/-- Touch, the servo and homing, and the moved-set test of a frame (R49, R72, R82). -/
def State.followed (s arrival : State) (b : BayId) (bytes : List Byte) : State :=
  let s4 := s.forFitted b fun t p => t.touchFrame (faderAt b p) (senseEntry bytes p).touch
  let s5 := s4.forFitted b fun t p => t.serveFader (faderAt b p) (arrival.slotFor (faderAt b p)).isSome
  s5.forFitted b fun t p =>
    t.movedTest (faderAt b p)
      ((arrival.slotFor (faderAt b p)).isSome || (arrival.fader (faderAt b p)).motion == .absent)

/-- A good frame of an open window, taken by a Present or a joining bay (R131, R133, R134). -/
theorem State.receiveFrame_taken {s : State} {b : BayId} {bytes : List Byte} (hopen : (s.bay b).window = .opened)
    (hgood : goodFrame bytes (s.bay b).seq = true)
    (hgo : (s.bay b).state = .present ∨ (s.bay b).state = .joining ∧ 7 ≤ (s.bay b).joinRun) :
    s.receiveFrame b bytes = ((((s.ready b bytes).refit b bytes).arbitrate.takeSupply b bytes).positioned b bytes).followed
      (s.modBay b fun x => { x with window := .answered }) b bytes := by
  rw [State.receiveFrame, if_pos ⟨hopen, hgood⟩, State.takeGoodFrame, State.modBay_bay_self, State.ready]
  dsimp only
  rcases hgo with hp | ⟨hj, hrun⟩
  · simp only [hp, if_true]; rfl
  · have : Config.joinFrames ≤ (s.bay b).joinRun + 1 := Nat.succ_le_succ hrun
    simp only [hj, this, if_true]; rfl

/-! ### What a frame leaves of the rest of the state -/

/-- What the bay links leave unchanged, but for bay records and events. -/
structure State.LinkFrame (s t : State) : Prop where
  bus : t.bus = s.bus
  mem : t.mem = s.mem
  staging : t.staging = s.staging
  law : t.law = s.law
  setup : t.setup = s.setup
  cues : t.cues = s.cues
  recalls : t.recalls = s.recalls
  engine : t.engine = s.engine
  run : t.queue.run = s.queue.run
  limit : t.table.limit = s.table.limit

theorem State.LinkFrame.trans {s t u : State} (h : s.LinkFrame t) (k : t.LinkFrame u) : s.LinkFrame u :=
  ⟨k.bus.trans h.bus, k.mem.trans h.mem, k.staging.trans h.staging, k.law.trans h.law, k.setup.trans h.setup,
    k.cues.trans h.cues, k.recalls.trans h.recalls, k.engine.trans h.engine, k.run.trans h.run, k.limit.trans h.limit⟩

theorem MotionFrame.linkFrame {s t : State} (h : MotionFrame s t) : s.LinkFrame t :=
  ⟨h.bus, h.mem, h.staging, h.law, h.setup, h.cues, h.recalls, h.engine, h.run, h.limit⟩

theorem State.withBay_linkFrame (s : State) (b : BayId) (y : Bay) (e : EventFlags) : s.LinkFrame (s.withBay b y e) := by
  constructor <;> rfl

/-! ### The supply step -/

theorem State.failSupply_frame (s : State) (b : BayId) : s.LinkFrame (s.failSupply b) :=
  have h : s.LinkFrame ((s.modBay b fun x => { x with supplyFault := true, supplyGood := false }).raise .supplyFault) := by
    constructor <;> rfl
  h.trans (MotionFrame.forFitted b (fun u p => u.endService (faderAt b p) .supplyFault) (fun _ _ => .endService ..) _).linkFrame

theorem State.takeSupply_frame (s : State) (b : BayId) (bytes : List Byte) : s.LinkFrame (s.takeSupply b bytes) := by
  rw [State.takeSupply_eq]
  split
  · constructor <;> rfl
  · split
    · constructor <;> rfl
    · exact (s.failSupply_frame b).trans (MotionFrame.arbitrate _).linkFrame

/-- A fader whose position does not fit is not touched by a supply that fails. -/
theorem State.failSupply_beside (s : State) {b : BayId} {f : FaderId} (hf : f ∉ s.fittedSet b) :
    s.Beside (s.failSupply b) f := by
  have hraised : s.Beside ((s.modBay b fun x => { x with supplyFault := true, supplyGood := false }).raise .supplyFault) f :=
    ⟨⟨rfl, rfl, rfl⟩, rfl⟩
  refine hraised.trans ?_
  unfold State.failSupply
  rw [State.forFitted_eq_foldl (fits := fun p => (s.bay b).fits p) fun p => by
    rw [State.raise_bay, State.modBay_bay_self]; rfl]
  refine foldl_beside (F := faderAt b) (fun t p => t.endService_only _ _) (fun p hp h => hf ?_) _
  exact h ▸ State.faderAt_mem_fittedSet (by simpa using hp)

theorem State.takeSupply_aloof {s : State} (hs : s.Sound) {b : BayId} (bytes : List Byte) {f : FaderId}
    (hf : f ∉ s.fittedSet b) : s.Aloof (s.takeSupply b bytes) f := by
  rw [State.takeSupply_eq]
  split
  · exact ⟨.same, rfl⟩
  · split
    · exact ⟨.same, rfl⟩
    · exact (s.failSupply_beside hf).aloof.trans
        ((State.arbitrate_acts (State.failSupply_keeps hs b).sound).aloof (Set.notMem_empty f))

/-- The events of the link after the supply step: SUPPLY_FAULT where the condition is newly set (R138). -/
theorem State.takeSupply_linkEvents {s : State} (hs : s.Sound) (b : BayId) (bytes : List Byte) :
    (s.takeSupply b bytes).linkEvents =
      (s.attn.events.supplyFault || (!senseSupplyGood bytes && !(s.bay b).supplyFault), s.attn.events.bayJoined) := by
  have hfail : (s.failSupply b).linkEvents = (true, s.attn.events.bayJoined) := by
    unfold State.failSupply
    rw [State.forFitted_eq_foldl fun _ => rfl, foldl_linkEvents (F := faderAt b) fun t p => t.endService_only _ _]
    rfl
  rw [State.takeSupply_eq]
  cases senseSupplyGood bytes with
  | true => simp [State.linkEvents]
  | false =>
    cases (s.bay b).supplyFault with
    | true => simp [State.linkEvents]
    | false =>
      simp only [Bool.false_eq_true, if_false]
      rw [(State.arbitrate_acts (State.failSupply_keeps hs b).sound).link, hfail]
      simp

/-! ### Positions -/

theorem State.positioned_frame (s : State) (b : BayId) (bytes : List Byte) : MotionFrame s (s.positioned b bytes) :=
  .forFitted b (fun t p => t.takePosition (faderAt b p) (senseEntry bytes p).raw) (fun _ _ => .takePosition ..) s

theorem State.positioned_keeps {s : State} (hs : s.Sound) {b : BayId} (hb : (s.bay b).state = .present)
    (bytes : List Byte) : s.Keeps (s.positioned b bytes) :=
  State.forFitted_keeps hs hb (act := fun t p => t.takePosition (faderAt b p) (senseEntry bytes p).raw)
    (fun _ _ => .takePosition ..) fun _ p ht hp => State.takePosition_keeps ht hp (senseEntry_raw_le bytes p)

theorem State.positioned_beside (s : State) {b : BayId} (bytes : List Byte) {f : FaderId} (hf : f ∉ s.fittedSet b) :
    s.Beside (s.positioned b bytes) f := by
  unfold State.positioned
  rw [State.forFitted_eq_foldl (fits := fun p => (s.bay b).fits p) fun _ => rfl]
  refine foldl_beside (F := faderAt b) (fun t p => t.takePosition_only _ _) (fun p hp h => hf ?_) s
  exact h ▸ State.faderAt_mem_fittedSet (by simpa using hp)

/-- A position of the bay taken, within the fold over its fitted positions. -/
theorem State.takePosition_step {s t : State} {b : BayId} (hb : (s.bay b).state = .present) {q : Position}
    (hq : (s.bay b).fits q = true) (h : t.Sound ∧ t.bays = s.bays) (bytes : List Byte) :
    (t.takePosition (faderAt b q) (senseEntry bytes q).raw).Sound ∧
      (t.takePosition (faderAt b q) (senseEntry bytes q).raw).bays = s.bays := by
  obtain ⟨ht, hbays⟩ := h
  have hna : (t.fader (faderAt b q)).motion ≠ .absent := (ht _).ne_absent_of_onBay (by
    rw [State.onBay_congr hbays, State.onBay_faderAt, hb, hq]; rfl)
  exact ⟨(State.takePosition_keeps ht hna (senseEntry_raw_le bytes q)).sound,
    (MotionFrame.takePosition t _ _).bays.trans hbays⟩

/-- A fitted fader after the positions are taken: its raw position is the frame's, and it is tracked (R3, R58). -/
theorem State.positioned_fader {s : State} (hs : s.Sound) {b : BayId} (hb : (s.bay b).state = .present) (bytes : List Byte)
    {p : Position} (hp : (s.bay b).fits p = true) :
    ((s.positioned b bytes).fader (faderAt b p)).raw = (senseEntry bytes p).raw ∧
      ((s.positioned b bytes).fader (faderAt b p)).stale = false ∧ (s.positioned b bytes).TrackedAt (faderAt b p) := by
  have hmem : p ∈ (List.finRange 8).filter fun q => (s.bay b).fits q := by simpa using hp
  obtain ⟨u, hu, -, hlast⟩ := foldl_passes (P := fun t => t.Sound ∧ t.bays = s.bays) (F := faderAt b)
    (act := fun t q => t.takePosition (faderAt b q) (senseEntry bytes q).raw) (nodup_faderAt_filter b _)
    (fun _ q hq h => State.takePosition_step hb (by simpa using hq) h bytes) (fun t q => t.takePosition_only _ _) ⟨hs, rfl⟩ hmem
  rw [← State.forFitted_eq_foldl (fun _ => rfl)] at hlast
  have hx : (s.positioned b bytes).fader (faderAt b p) = _ := hlast.same.fader.trans (u.takePosition_fader _ _)
  have htracked := hlast.same.trackedAt ((State.takePosition_step hb hp hu bytes).1 _) (State.takePosition_tracked (hu.1 _) _)
  exact ⟨by rw [hx], by rw [hx], htracked⟩

/-! ### Touch, servo, homing and the moved set -/

theorem State.followed_acts {s : State} (hs : s.Sound) (arrival : State) {b : BayId} (hb : (s.bay b).state = .present)
    (bytes : List Byte) : Acts (s.fittedSet b) s (s.followed arrival b bytes) ∧
      MotionFrame s (s.followed arrival b bytes) := by
  have hstep : ∀ {t : State} {act : State → Position → State}, Acts (s.fittedSet b) s t ∧ MotionFrame s t →
      (∀ u p, MotionFrame u (act u p)) →
      (∀ (u : State) p, u.Sound → (u.fader (faderAt b p)).motion ≠ .absent → Acts {faderAt b p} u (act u p)) →
      Acts (s.fittedSet b) s (t.forFitted b act) ∧ MotionFrame s (t.forFitted b act) :=
    fun {t act} ⟨h1, h2⟩ hframe h => by
      have hbt : (t.bay b).state = .present := by simpa only [State.bay, h2.bays] using hb
      exact ⟨h1.trans (State.fittedSet_congr h2.bays b ▸ State.forFitted_acts h1.sound hbt hframe h),
        h2.trans (.forFitted b act hframe t)⟩
  have h4 := hstep (act := fun t p => t.touchFrame (faderAt b p) (senseEntry bytes p).touch) ⟨.refl hs, .refl s⟩
    (fun _ _ => .touchFrame ..) fun t p ht hp => State.touchFrame_acts ht hp _
  have h5 := hstep (act := fun t p => t.serveFader (faderAt b p) (arrival.slotFor (faderAt b p)).isSome) h4
    (fun _ _ => .serveFader ..) fun t p ht _ => State.serveFader_acts ht _ _
  exact hstep (act := fun t p => t.movedTest (faderAt b p)
      ((arrival.slotFor (faderAt b p)).isSome || (arrival.fader (faderAt b p)).motion == .absent)) h5
    (fun _ _ => .movedTest ..) fun t p ht _ => State.movedTest_acts ht _ _

end Sys2Proof.Machine
end

section
/-! The loss of a fader as an action on that fader alone, with the completion it writes (R28, R136, R137, R143). -/

namespace Sys2Proof.Machine

/-! ### The completion that the end of a service writes -/

theorem State.serviceRecord_fields {s : State} {f : FaderId} {o : EndOutcome} {r : Completion}
    (h : s.serviceRecord f o = some r) : r.fader = f ∧ r.repeated = false ∧ r.opened = false := by
  unfold State.serviceRecord at h
  dsimp only at h
  split at h
  · obtain ⟨e, -, rfl⟩ := Option.map_eq_some_iff.mp h; exact ⟨rfl, rfl, rfl⟩
  · obtain ⟨e, -, rfl⟩ := Option.map_eq_some_iff.mp h; exact ⟨rfl, rfl, rfl⟩
  · obtain ⟨e, -, rfl⟩ := Option.map_eq_some_iff.mp h; exact ⟨rfl, rfl, rfl⟩
  · obtain ⟨e, -, rfl⟩ := Option.map_eq_some_iff.mp h; exact ⟨rfl, rfl, rfl⟩
  all_goals cases h

theorem State.entryFor_eq_head (s : State) (f : FaderId) : s.entryFor f = (s.entriesOf f).head? :=
  (List.head?_filter ..).symm

theorem State.SameAt.serviceRecord {s t : State} {f : FaderId} (h : s.SameAt t f) (o : EndOutcome) :
    t.serviceRecord f o = s.serviceRecord f o := by
  simp only [State.serviceRecord, h.fader, h.slotFor, h.unparkedPerMille, State.entryFor_eq_head, h.entries]

/-- The record that a new completion becomes: marked as repeated where its fader had one (R143). -/
theorem mem_writeRecord {c : Completion} (hr : c.repeated = false) (ho : c.opened = false) (q : List Completion) :
    { c with repeated := q.any fun d => decide (d.fader = c.fader) } ∈ writeRecord c q := by
  induction q with
  | nil => simp [writeRecord, ← hr]
  | cons x rest ih =>
    unfold writeRecord
    split
    · next h => simp [h, ← ho]
    · next h =>
      refine List.mem_cons_of_mem _ ?_
      simpa [h] using ih

theorem State.any_fader_congr {s t : State} {f : FaderId} (h : t.recordsOf f = s.recordsOf f) :
    (t.completions.any fun d => decide (d.fader = f)) = s.completions.any fun d => decide (d.fader = f) := by
  have key : ∀ u : State, (u.completions.any fun d => decide (d.fader = f)) =
      (u.recordsOf f).any fun d => decide (d.fader = f) := fun u => by
    simp [State.recordsOf, List.any_filter]
  rw [key, key, h]

theorem State.mem_recordsOf {s : State} {f : FaderId} {c : Completion} :
    c ∈ s.recordsOf f ↔ c ∈ s.completions ∧ c.fader = f := by
  simp [State.recordsOf]

/-! ### The end of a service, and the loss, of one fader -/

theorem State.serviceEnded_only (s : State) (f : FaderId) (o : EndOutcome) : OnlyAt f s (s.serviceEnded f o) where
  frame := by constructor <;> rfl
  others g hg := by
    refine ⟨s.serviceEnded_fader_ne o hg, ?_, funext fun i => ?_⟩
    · simp only [State.entriesOf, State.serviceEnded_entries, List.filter_filter]
      exact List.filter_congr fun e _ => by by_cases he : e.fader = g <;> simp [he, hg]
    · unfold State.slotsOf
      rw [State.serviceEnded_slot]
      cases s.slot i with
      | none => rfl
      | some sl => by_cases h : sl.fader = g <;> by_cases h' : sl.fader = f <;> simp_all [Option.filter_some]
  records g hg := by
    unfold State.recordsOf State.serviceEnded
    dsimp only
    split
    · rfl
    · next c hc => exact filter_writeRecord_ne _ _ fun e => hg (e.trans (State.serviceRecord_fields hc).1)
  link := rfl

theorem State.faderLost_only (s : State) (f : FaderId) : OnlyAt f s (s.faderLost f) :=
  (s.serviceEnded_only f .bayLost).trans (.modFader ..)

theorem State.fittedChanged_only (s : State) (f : FaderId) (was now : Bool) : OnlyAt f s (s.fittedChanged f was now) := by
  unfold State.fittedChanged
  split
  · exact s.faderLost_only f
  · split
    · exact s.enterFader_only f
    · exact .refl s

/-- The record of a lost fader (R136, R137). -/
theorem State.faderLost_fader (s : State) (f : FaderId) : (s.faderLost f).fader f =
    { (s.fader f).afterEnd (s.unparkedPerMille f) with
      motion := .absent, stale := true, touch := .untouched, touchRun := 0, releaseRun := 0, guardTimer := 0,
      pendingTarget := none } := by
  rw [State.faderLost, State.modFader_fader_self, State.serviceEnded_fader_self]

theorem Fader.afterEnd_raw (x : Fader) (p : Nat) : (x.afterEnd p).raw = x.raw := by
  unfold Fader.afterEnd
  split <;> rfl

/-- A change of its fitted bit leaves a fader where it stands (R85, R135). -/
theorem State.fittedChanged_raw (s : State) (f : FaderId) (was now : Bool) :
    ((s.fittedChanged f was now).fader f).raw = (s.fader f).raw := by
  unfold State.fittedChanged
  split
  · rw [State.faderLost_fader]; exact Fader.afterEnd_raw ..
  · split
    · rw [State.setFader_fader_self]
    · rfl

/-- A lost fader's completions: one more where it was serving (R136, R143). -/
theorem State.faderLost_completions (s : State) (f : FaderId) : (s.faderLost f).completions =
    match s.serviceRecord f .bayLost with
    | none => s.completions
    | some c => writeRecord c s.completions := rfl

end Sys2Proof.Machine
end

section
/-! A good frame that a Present or a joining bay takes, clause by clause (R3, R130, R133 to R139). -/

namespace Sys2Proof.Machine

/-! ### The states that a frame goes through -/

/-- Whether a bay takes the good frame that comes now: it is Present, or the frame completes its join (R133). -/
def Bay.takes (x : Bay) : Prop :=
  x.state = .present ∨ x.state = .joining ∧ 7 ≤ x.joinRun

/-- The positions that were fitted and Present before a frame. -/
def Bay.was (x : Bay) (p : Position) : Bool :=
  decide (x.state = .present) && x.fitted.getLsbD p.val

/-- The positions that a frame says are fitted. -/
def senseFits (bytes : List Byte) (p : Position) : Bool :=
  (senseEntry bytes p).fitted

/-- The state with the fitted bits of a frame taken, but for the arbiter (R135, R137). -/
def State.refitted (s : State) (b : BayId) (bytes : List Byte) : State :=
  (s.begun b bytes).fittedChanges b (s.bay b).was (senseFits bytes)

/-- The state with the supply report of a frame taken (R138, R139). -/
def State.supplied (s : State) (b : BayId) (bytes : List Byte) : State :=
  (s.refitted b bytes).arbitrate.takeSupply b bytes

/-- The state with the whole frame taken (R134). -/
def State.framed (s : State) (b : BayId) (bytes : List Byte) : State :=
  ((s.supplied b bytes).positioned b bytes).followed (s.modBay b fun x => { x with window := .answered }) b bytes

/-- The faders of the positions that a frame of a bay says are fitted. -/
def shownSet (b : BayId) (bytes : List Byte) : Set FaderId :=
  { f | bayOf f = b ∧ senseFits bytes (positionOf f) = true }

theorem State.ready_refit_eq {s : State} (hs : s.Sound) {b : BayId} (hgo : (s.bay b).takes) (bytes : List Byte) :
    (s.ready b bytes).refit b bytes = s.refitted b bytes := by
  rw [State.ready_refit hs hgo]
  simp only [senseFitted_getLsbD]
  rfl

theorem State.receiveFrame_eq_framed {s : State} (hs : s.Sound) {b : BayId} {bytes : List Byte}
    (hopen : (s.bay b).window = .opened) (hgood : goodFrame bytes (s.bay b).seq = true) (hgo : (s.bay b).takes) :
    s.receiveFrame b bytes = s.framed b bytes := by
  rw [State.receiveFrame_taken hopen hgood hgo, State.ready_refit_eq hs hgo]
  rfl

theorem State.refitted_keeps {s : State} (hs : s.Sound) {b : BayId} (hgo : (s.bay b).takes) (bytes : List Byte) :
    s.Keeps (s.refitted b bytes) := by
  rw [← State.ready_refit_eq hs hgo]
  have h := State.ready_keeps hs b bytes
  exact h.trans (State.refit_keeps h.sound (s.ready_present b bytes) bytes)

/-! ### Bays -/

theorem State.begun_bay (s : State) (b c : BayId) (bytes : List Byte) :
    (s.begun b bytes).bay c = if c = b then (s.bay b).begun bytes else s.bay c := by
  refine (s.setBay_bay b c _).trans ?_
  by_cases h : c = b
  · subst h; simp
  · simp [h, Ne.symm h]

theorem State.refitted_bays (s : State) (b : BayId) (bytes : List Byte) :
    (s.refitted b bytes).arbitrate.bays = (s.begun b bytes).bays :=
  (MotionFrame.arbitrate _).bays.trans ((s.begun b bytes).fittedChanges_bays_attn ..).1

theorem State.arbitrated_bay (s : State) (b : BayId) (bytes : List Byte) :
    (s.refitted b bytes).arbitrate.bay b = (s.bay b).begun bytes := by
  have : (s.refitted b bytes).arbitrate.bay b = (s.begun b bytes).bay b := by simp only [State.bay, s.refitted_bays b bytes]
  rw [this, s.begun_bay, if_pos rfl]

theorem State.supplied_bay (s : State) (b c : BayId) (bytes : List Byte) :
    (s.supplied b bytes).bay c = if c = b then
      { (s.bay b).begun bytes with supplyFault := !senseSupplyGood bytes, supplyGood := senseSupplyGood bytes }
    else s.bay c := by
  have hbay : ∀ c, (s.refitted b bytes).arbitrate.bay c = (s.begun b bytes).bay c := fun c => by
    simp only [State.bay, s.refitted_bays b bytes]
  rw [State.supplied, State.takeSupply_bay, hbay, hbay, s.begun_bay b c, s.begun_bay b b]
  split
  · rw [if_pos rfl]
  · rfl

theorem Bay.begun_fits (x : Bay) (bytes : List Byte) (p : Position) : (x.begun bytes).fits p = senseFits bytes p :=
  senseFitted_getLsbD bytes p

theorem State.supplied_present (s : State) (b : BayId) (bytes : List Byte) : ((s.supplied b bytes).bay b).state = .present := by
  rw [s.supplied_bay, if_pos rfl]; rfl

theorem State.supplied_fits (s : State) (b : BayId) (bytes : List Byte) (p : Position) :
    ((s.supplied b bytes).bay b).fits p = senseFits bytes p := by
  rw [s.supplied_bay, if_pos rfl]; exact (s.bay b).begun_fits bytes p

theorem State.refitted_fits (s : State) (b : BayId) (bytes : List Byte) (p : Position) :
    ((s.refitted b bytes).arbitrate.bay b).fits p = senseFits bytes p := by
  rw [s.arbitrated_bay]; exact (s.bay b).begun_fits bytes p

theorem fittedSet_eq_shownSet {t : State} {b : BayId} {bytes : List Byte} (h : ∀ p, (t.bay b).fits p = senseFits bytes p) :
    t.fittedSet b = shownSet b bytes := by
  simp only [State.fittedSet, shownSet, h]

theorem State.refitted_frame (s : State) (b : BayId) (bytes : List Byte) : s.LinkFrame (s.refitted b bytes) :=
  (s.withBay_linkFrame b _ _).trans (MotionFrame.foldl _ (fun t _ => (t.fittedChanged_only _ _ _).frame) _ _).linkFrame

/-! ### The whole frame keeps the invariants, and the frame of the links -/

section Taken

variable {s : State} (hs : s.Sound) {b : BayId} (hgo : (s.bay b).takes) (bytes : List Byte)
include hs hgo

theorem State.arbitrated_sound : (s.refitted b bytes).arbitrate.Sound :=
  (State.arbitrate_acts (State.refitted_keeps hs hgo bytes).sound).sound

theorem State.supplied_sound : (s.supplied b bytes).Sound :=
  (State.takeSupply_keeps (State.arbitrated_sound hs hgo bytes) b bytes).sound

theorem State.positioned_sound : ((s.supplied b bytes).positioned b bytes).Sound :=
  (State.positioned_keeps (State.supplied_sound hs hgo bytes) (s.supplied_present b bytes) bytes).sound

theorem State.framed_acts : Acts (shownSet b bytes) ((s.supplied b bytes).positioned b bytes) (s.framed b bytes) ∧
    MotionFrame ((s.supplied b bytes).positioned b bytes) (s.framed b bytes) := by
  have hframe := (s.supplied b bytes).positioned_frame b bytes
  have hset : ((s.supplied b bytes).positioned b bytes).fittedSet b = shownSet b bytes :=
    (State.fittedSet_congr hframe.bays b).trans (fittedSet_eq_shownSet (s.supplied_fits b bytes))
  rw [← hset]
  exact State.followed_acts (State.positioned_sound hs hgo bytes) _
    (by simpa only [State.bay, hframe.bays] using s.supplied_present b bytes) bytes

theorem State.framed_sound : (s.framed b bytes).Sound :=
  (State.framed_acts hs hgo bytes).1.sound

theorem State.framed_bay (c : BayId) : (s.framed b bytes).bay c = if c = b then
    { (s.bay b).begun bytes with supplyFault := !senseSupplyGood bytes, supplyGood := senseSupplyGood bytes }
    else s.bay c := by
  rw [← s.supplied_bay]
  simp only [State.bay, (State.framed_acts hs hgo bytes).2.bays, ((s.supplied b bytes).positioned_frame b bytes).bays]

/-- A fader that the frame does not show is left to the arbiter once the fitted bits are taken. -/
theorem State.framed_aloof {f : FaderId} (hf : f ∉ shownSet b bytes) : (s.refitted b bytes).Aloof (s.framed b bytes) f := by
  have h1 : (s.refitted b bytes).Aloof (s.refitted b bytes).arbitrate f :=
    (State.arbitrate_acts (State.refitted_keeps hs hgo bytes).sound).aloof (Set.notMem_empty f)
  have h2 : (s.refitted b bytes).arbitrate.Aloof (s.supplied b bytes) f :=
    State.takeSupply_aloof (State.arbitrated_sound hs hgo bytes) bytes (by
      rw [fittedSet_eq_shownSet (s.refitted_fits b bytes)]; exact hf)
  have h3 := (s.supplied b bytes).positioned_beside bytes (b := b) (f := f) (by
    rw [fittedSet_eq_shownSet (s.supplied_fits b bytes)]; exact hf)
  exact ((h1.trans h2).trans h3.aloof).trans ((State.framed_acts hs hgo bytes).1.aloof hf)

theorem State.framed_frame : s.LinkFrame (s.framed b bytes) :=
  ((((s.refitted_frame b bytes).trans (MotionFrame.arbitrate _).linkFrame).trans (State.takeSupply_frame _ b bytes)).trans
    (State.positioned_frame _ b bytes).linkFrame).trans (State.framed_acts hs hgo bytes).2.linkFrame

/-- The link events after a frame (R133, R138). -/
theorem State.framed_linkEvents : (s.framed b bytes).linkEvents =
    (s.attn.events.supplyFault || (!senseSupplyGood bytes && !((s.bay b).begun bytes).supplyFault),
      s.attn.events.bayJoined || decide ((s.bay b).state = .joining ∧ 7 ≤ (s.bay b).joinRun)) := by
  have hpos : ((s.supplied b bytes).positioned b bytes).linkEvents = (s.supplied b bytes).linkEvents := by
    unfold State.positioned
    rw [State.forFitted_eq_foldl fun _ => rfl]
    exact foldl_linkEvents (F := faderAt b) (fun t p => t.takePosition_only _ _) _ _
  have harb : (s.refitted b bytes).arbitrate.linkEvents = (s.begun b bytes).linkEvents := by
    rw [(State.arbitrate_acts (State.refitted_keeps hs hgo bytes).sound).link, State.linkEvents, State.refitted,
      ((s.begun b bytes).fittedChanges_bays_attn ..).2]
    rfl
  obtain ⟨hsupply, hjoined⟩ := Prod.mk.inj harb
  rw [(State.framed_acts hs hgo bytes).1.link, hpos, State.supplied,
    State.takeSupply_linkEvents (State.arbitrated_sound hs hgo bytes), hsupply, hjoined, s.arbitrated_bay]
  rfl

end Taken

end Sys2Proof.Machine
end

section
/-! What a good frame does to the faders of its bay and to all others, and its steps as the statement writes them: O42. -/

namespace Sys2Proof.Machine

/-! ### Faders -/

theorem State.begun_beside (s : State) (b : BayId) (bytes : List Byte) (f : FaderId) : s.Beside (s.begun b bytes) f :=
  ⟨⟨rfl, rfl, rfl⟩, rfl⟩

/-- The change of the fitted bit of one fader, in a state in which that fader is as it was. -/
theorem State.refitted_passes (s : State) (b : BayId) (bytes : List Byte) (p : Position) :
    ∃ u : State, s.Beside u (faderAt b p) ∧
      (u.fittedChanged (faderAt b p) ((s.bay b).was p) (senseFits bytes p)).Beside (s.refitted b bytes) (faderAt b p) := by
  obtain ⟨u, -, h1, h2⟩ := foldl_passes (P := fun _ => True) (F := faderAt b) (s := s.begun b bytes)
    (act := fun t p => t.fittedChanged (faderAt b p) ((s.bay b).was p) (senseFits bytes p)) (nodup_faderAt b)
    (fun _ _ _ _ => trivial) (fun t p => t.fittedChanged_only _ _ _) trivial (List.mem_finRange p)
  exact ⟨u, (s.begun_beside b bytes _).trans h1, h2⟩

/-- A fader of another bay is passed by until the arbiter decides. -/
theorem State.refitted_beside (s : State) {b : BayId} (bytes : List Byte) {f : FaderId} (hf : bayOf f ≠ b) :
    s.Beside (s.refitted b bytes) f :=
  (s.begun_beside b bytes f).trans (foldl_beside (F := faderAt b) (fun t _ => t.fittedChanged_only _ _ _)
    (fun _ _ h => hf ((congrArg bayOf h).symm.trans (bayOf_faderAt b _))) _)

theorem mem_shownSet {b : BayId} {bytes : List Byte} {p : Position} :
    faderAt b p ∈ shownSet b bytes ↔ senseFits bytes p = true := by
  simp [shownSet]

section Taken

variable {s : State} (hs : s.Sound) {b : BayId} (hgo : (s.bay b).takes) (bytes : List Byte)
include hs hgo

theorem State.framed_onBay (p : Position) : (s.framed b bytes).onBay (faderAt b p) = senseFits bytes p := by
  rw [State.onBay_faderAt, State.framed_bay hs hgo, if_pos rfl]
  exact (Bool.true_and _).trans ((s.bay b).begun_fits bytes p)

/-- A fader that the frame shows (R3, R134, R138). -/
theorem State.framed_shown {p : Position} (hp : senseFits bytes p = true) :
    let t := s.framed b bytes
    let f := faderAt b p
    (t.fader f).motion ≠ .absent ∧ (t.fader f).stale = false ∧ (t.fader f).raw = (senseEntry bytes p).raw ∧
      (t.fader f).perMille = perMilleOfRaw (t.calInForce f).1 (t.calInForce f).2 (senseEntry bytes p).raw ∧
      (senseSupplyGood bytes = false → (t.fader f).motion.free = true) := by
  intro t f
  obtain ⟨hacts, -⟩ := State.framed_acts hs hgo bytes
  obtain ⟨hraw, hstale, htracked⟩ := State.positioned_fader (State.supplied_sound hs hgo bytes) (s.supplied_present b bytes)
    bytes ((s.supplied_fits b bytes p).trans hp)
  have hraw' : (t.fader f).raw = (senseEntry bytes p).raw := (hacts.raw f).trans hraw
  have hsound := State.framed_sound hs hgo bytes f
  refine ⟨hsound.ne_absent_of_onBay ((State.framed_onBay hs hgo bytes p).trans hp), (hacts.stale f).trans hstale, hraw', ?_,
    fun hbad => hsound.servable.resolve_right fun hserv => ?_⟩
  · rw [← hraw']; exact (hacts.kept f).tracked htracked
  · have hfault : t.supplyFaulted f = true := by
      rw [State.supplyFaulted, bayOf_faderAt, State.framed_bay hs hgo, if_pos rfl, hbad]; rfl
    exact absurd (hfault.symm.trans hserv.supplied) (by decide)

/-- A fader of the bay that the frame does not show (R85, R137). -/
theorem State.framed_hidden {p : Position} (hp : senseFits bytes p = false) :
    let t := s.framed b bytes
    let f := faderAt b p
    (t.fader f).motion = .absent ∧ (t.fader f).raw = (s.fader f).raw ∧ (t.fader f).stale = true ∧
      (t.fader f).touch = .untouched ∧ t.slotFor f = none := by
  intro t f
  have hsound := State.framed_sound hs hgo bytes f
  have habsent : (t.fader f).motion = .absent := hsound.absent.mpr ((State.framed_onBay hs hgo bytes p).trans hp)
  obtain ⟨htouch, hstale⟩ := hsound.gone habsent
  obtain ⟨-, hslots⟩ := hsound.free_of (by rw [habsent]; rfl)
  obtain ⟨u, h1, h2⟩ := s.refitted_passes b bytes p
  have haloof := State.framed_aloof hs hgo bytes (f := f) (mt mem_shownSet.mp (by simp [hp]))
  refine ⟨habsent, ?_, hstale, htouch, State.slotFor_eq_none hslots⟩
  rw [haloof.record.raw, h2.same.fader, State.fittedChanged_raw, h1.same.fader]

/-- A fader whose fitted bit went clear ends BayLost (R137). -/
theorem State.framed_lost {p : Position} (hwas : (s.bay b).was p = true) (hp : senseFits bytes p = false) :
    let t := s.framed b bytes
    let f := faderAt b p
    t.fader f = { (s.fader f).afterEnd (s.unparkedPerMille f) with
        motion := .absent, stale := true, touch := .untouched, touchRun := 0, releaseRun := 0, guardTimer := 0,
        pendingTarget := none } ∧
      (∀ r, s.serviceRecord f .bayLost = some r →
        { r with repeated := s.completions.any fun d => decide (d.fader = f) } ∈ t.completions) ∧
      (s.serviceRecord f .bayLost = none → ∀ r ∈ t.completions, r.fader = f → r ∈ s.completions) := by
  intro t f
  obtain ⟨u, h1, h2⟩ := s.refitted_passes b bytes p
  have haloof := State.framed_aloof hs hgo bytes (f := f) (mt mem_shownSet.mp (by simp [hp]))
  have hlost : u.fittedChanged f ((s.bay b).was p) (senseFits bytes p) = u.faderLost f := by
    rw [hwas, hp]; rfl
  rw [hlost] at h2
  have hfader : (s.refitted b bytes).fader f = _ := h2.same.fader.trans (u.faderLost_fader f)
  have hrecords : t.recordsOf f = (u.faderLost f).recordsOf f := haloof.records.trans h2.records
  have hrec := h1.same.serviceRecord .bayLost
  refine ⟨?_, fun r hr => ?_, fun hr r hmem hf => ?_⟩
  · rw [haloof.record.eq_of_free (by rw [hfader]; rfl), hfader, h1.same.fader, h1.same.unparkedPerMille]
  · obtain ⟨hrf, hrep, hopen⟩ := State.serviceRecord_fields hr
    have hany : (u.completions.any fun d => decide (d.fader = r.fader)) = s.completions.any fun d => decide (d.fader = f) := by
      rw [hrf]; exact State.any_fader_congr h1.records
    have hmem := mem_writeRecord hrep hopen u.completions
    rw [hany] at hmem
    have hw : (u.faderLost f).completions = writeRecord r u.completions := by
      rw [State.faderLost_completions, hrec, hr]
    rw [← hw] at hmem
    have hlast := State.mem_recordsOf.mpr ⟨hmem, hrf⟩
    rw [← hrecords] at hlast
    exact (State.mem_recordsOf.mp hlast).1
  · have hw : (u.faderLost f).recordsOf f = u.recordsOf f := by
      rw [State.recordsOf, State.faderLost_completions, hrec, hr]; rfl
    have : r ∈ s.recordsOf f := by
      rw [← h1.records, ← hw, ← hrecords]; exact State.mem_recordsOf.mpr ⟨hmem, hf⟩
    exact (State.mem_recordsOf.mp this).1

/-- A fader of another bay (R43, R45). -/
theorem State.framed_other {f : FaderId} (hf : bayOf f ≠ b) : ByArbiter (s.fader f) ((s.framed b bytes).fader f) :=
  (s.refitted_beside bytes hf).aloof.trans (State.framed_aloof hs hgo bytes fun h => hf h.1) |>.record

end Taken

theorem ByArbiter.cases_of {x y : Fader} (h : ByArbiter x y) :
    y = x ∨ (x.motion = .waiting ∧ y = { x with motion := .moving }) ∨
      (x.motion = .waiting ∧ y = { x with motion := .homing, cls := .home, tag := 0 }) ∨
      (x.motion = .holding ∧ y = { x with motion := .idle, offTarget := false }) := by
  cases h with
  | same => exact .inl rfl
  | move h => exact .inr (.inl ⟨h, rfl⟩)
  | home h => exact .inr (.inr (.inl ⟨h, rfl⟩))
  | hold h => exact .inr (.inr (.inr ⟨h, rfl⟩))

/-! ### The steps as the rules have them -/

/-- A slot as the rule has it follow a raw position: the slot of one fader, while it homes Down or Up (R61). -/
def Slot.followedFor (f : FaderId) (raw : Nat) (sl : Slot) : Slot :=
  if sl.fader = f ∧ sl.use = .homing ∧ sl.phase ≠ .park then { sl with setpoint := raw } else sl

/-- The slot of a fader follows a raw position as the rule has it. -/
theorem State.followRaw_eq {s : State} {f : FaderId} (hs : s.slotsOf f = noSlot ∨ ∃ i sl, s.slotsOf f = onlySlot i sl)
    (raw : Nat) : s.followRaw f raw = { s with table := { s.table with
      slots := s.table.slots.map fun o => o.map (Slot.followedFor f raw) } } := by
  have hother : ∀ {i sl}, s.slot i = some sl → sl.fader ≠ f → (s.slot i).map (Slot.followedFor f raw) = s.slot i :=
    fun h hf => by rw [h, Option.map_some, Slot.followedFor, if_neg fun e => hf e.1]
  rcases hs with n | ⟨i, sl, n⟩
  · have hsame : (s.table.slots.map fun o => o.map (Slot.followedFor f raw)) = s.table.slots := Vector.ext fun j hj => by
      rw [Vector.getElem_map]
      cases hsl : s.slot ⟨j, hj⟩ with
      | none => exact (congrArg (Option.map _) hsl).trans hsl.symm
      | some sl =>
        refine hother hsl fun hf => ?_
        have := State.slotsOf_eq_some.mpr ⟨hsl, hf⟩
        simp [n, noSlot] at this
    rw [State.followRaw, State.slotFor_eq_none n, hsame]
  · obtain ⟨hi, hf⟩ := State.slot_of_onlySlot n
    have hset : (s.table.slots.map fun o => o.map (Slot.followedFor f raw)) =
        s.table.slots.set i (some (sl.followRaw raw)) := Vector.ext fun j hj => by
      rw [Vector.getElem_map, Vector.getElem_set]
      split
      · next hij =>
        subst hij
        refine (congrArg (Option.map _) hi).trans ?_
        simp only [Option.map_some, Slot.followedFor, Slot.followRaw, hf, true_and]
      · next hij =>
        cases hsl : s.slot ⟨j, hj⟩ with
        | none => exact (congrArg (Option.map _) hsl).trans hsl.symm
        | some sl' =>
          refine hother hsl fun hf' => hij ?_
          have := State.slotsOf_eq_some.mpr ⟨hsl, hf'⟩
          rw [n, onlySlot_eq_some] at this
          exact (congrArg Fin.val this.1).symm
    rw [State.followRaw, State.slotFor_eq_some n, hset]
    rfl

/-- A position taken by an owned fader is the rule's (R3, R58, R61). -/
theorem State.takePosition_eq {s : State} {f : FaderId} (hs : s.Served f) (raw : Nat) :
    s.takePosition f raw = s.positionTaken f raw :=
  State.followRaw_eq (s := s.modFader f _) hs.slots_cases raw

/-- The positions of a frame, over the positions that it shows. -/
theorem State.positioned_eq {s : State} (hs : s.Sound) {b : BayId} (hb : (s.bay b).state = .present) {bytes : List Byte}
    (hfits : ∀ p, (s.bay b).fits p = senseFits bytes p) :
    s.positioned b bytes = ((List.finRange 8).filter (senseFits bytes)).foldl
      (fun u p => u.positionTaken (faderAt b p) (senseEntry bytes p).raw) s := by
  unfold State.positioned
  rw [State.forFitted_eq_foldl hfits]
  refine foldl_congr_of (P := fun t => t.Sound ∧ t.bays = s.bays) ⟨hs, rfl⟩ fun t p hp h => ?_
  have hfit : (s.bay b).fits p = true := (hfits p).trans (by simpa using hp)
  exact ⟨State.takePosition_eq (h.1 _).served _, State.takePosition_step hb hfit h bytes⟩

/-- The slot of a fader takes a frame, if the fader held one as the frame arrived. -/
theorem State.serveFader_isSome (s : State) (f : FaderId) (o : Option (SlotId × Slot)) :
    s.serveFader f o.isSome = if o = none then s else
      match s.slotFor f with
      | none => s
      | some (i, sl) => s.serveSlot i sl := by
  cases o with
  | none => rfl
  | some q => rw [if_neg (Option.some_ne_none q)]; rfl

/-- The steps that follow the positions, over the positions that the frame shows. -/
theorem State.followed_eq {s arrival : State} {b : BayId} {bytes : List Byte}
    (hfits : ∀ p, (s.bay b).fits p = senseFits bytes p) :
    let shown := (List.finRange 8).filter (senseFits bytes)
    let s4 := shown.foldl (fun u p => u.touchFrame (faderAt b p) (senseEntry bytes p).touch) s
    let s5 := shown.foldl (fun u p =>
      if arrival.slotFor (faderAt b p) = none then u
      else
        match u.slotFor (faderAt b p) with
        | none => u
        | some (i, sl) => u.serveSlot i sl) s4
    s.followed arrival b bytes = shown.foldl (fun u p => u.movedTest (faderAt b p)
      (decide (arrival.slotFor (faderAt b p) ≠ none ∨ (arrival.fader (faderAt b p)).motion = .absent))) s5 := by
  intro shown s4 s5
  have hbays4 : s4.bays = s.bays :=
    (MotionFrame.foldl _ (fun t p => .touchFrame t (faderAt b p) (senseEntry bytes p).touch) shown s).bays
  have h4 : s.forFitted b (fun t p => t.touchFrame (faderAt b p) (senseEntry bytes p).touch) = s4 :=
    State.forFitted_eq_foldl hfits _
  have h5 : s4.forFitted b (fun t p => t.serveFader (faderAt b p) (arrival.slotFor (faderAt b p)).isSome) = s5 := by
    rw [State.forFitted_eq_foldl (fits := senseFits bytes) fun p => by simpa only [State.bay, hbays4] using hfits p]
    simp only [State.serveFader_isSome]
    rfl
  have hbays5 : s5.bays = s.bays := by
    rw [← h5]
    exact (MotionFrame.forFitted b _ (fun t p => .serveFader t (faderAt b p) _) s4).bays.trans hbays4
  have hfollows : ∀ p, ((arrival.slotFor (faderAt b p)).isSome || (arrival.fader (faderAt b p)).motion == .absent) =
      decide (arrival.slotFor (faderAt b p) ≠ none ∨ (arrival.fader (faderAt b p)).motion = .absent) := fun p => by
    rw [Bool.decide_or]
    cases arrival.slotFor (faderAt b p) <;> rfl
  unfold State.followed
  simp only [h4, h5, hfollows]
  exact State.forFitted_eq_foldl (fun p => by simpa only [State.bay, hbays5] using hfits p) _

/-- The supply fault condition with which a frame begins: that of a Present bay (R133). -/
theorem Bay.begun_supplyFault {x : Bay} (h : x.takes) (bytes : List Byte) :
    (x.begun bytes).supplyFault = true ↔ x.state = .present ∧ x.supplyFault = true := by
  rcases h with hp | hj
  · simp [Bay.begun, hp]
  · simp [Bay.begun, hj]

/-- The whole frame, as the six steps of the rules (R49, R72, R82, R134). -/
theorem State.framed_eq {s : State} (hs : s.Sound) {b : BayId} (hgo : (s.bay b).takes) (bytes : List Byte) :
    let shown := (List.finRange 8).filter (senseFits bytes)
    let s2 := (s.refitted b bytes).arbitrate.takeSupply b bytes
    let s3 := shown.foldl (fun u p => u.positionTaken (faderAt b p) (senseEntry bytes p).raw) s2
    let s4 := shown.foldl (fun u p => u.touchFrame (faderAt b p) (senseEntry bytes p).touch) s3
    let s5 := shown.foldl (fun u p =>
      if s.slotFor (faderAt b p) = none then u
      else
        match u.slotFor (faderAt b p) with
        | none => u
        | some (i, sl) => u.serveSlot i sl) s4
    s.framed b bytes = shown.foldl (fun u p => u.movedTest (faderAt b p)
      (decide (s.slotFor (faderAt b p) ≠ none ∨ (s.fader (faderAt b p)).motion = .absent))) s5 := by
  intro shown s2 s3 s4 s5
  have h3 : (s.supplied b bytes).positioned b bytes = s3 :=
    State.positioned_eq (State.supplied_sound hs hgo bytes) (s.supplied_present b bytes) (s.supplied_fits b bytes)
  have hfits : ∀ p, (s3.bay b).fits p = senseFits bytes p := fun p => by
    rw [← h3]
    simpa only [State.bay, ((s.supplied b bytes).positioned_frame b bytes).bays] using s.supplied_fits b bytes p
  rw [State.framed, h3]
  exact State.followed_eq hfits

/-- Settles O42: what a frame that is taken leaves of the bay, the events and each fader, and its six steps. -/
theorem senseFrameUpdatesBay : Obligations.SenseFrameUpdatesBay := by
  unfold Obligations.SenseFrameUpdatesBay
  intro b bytes s hr hlen hown habsent hheld x joins supply fits raw fault shown was hopen hstart hsum hseq htakes
  have hs : s.Sound := State.soundAt_of_owned hown habsent hheld
  have hgo : (s.bay b).takes := htakes
  have hreceive := State.receiveFrame_eq_framed hs hopen (goodFrame_of hlen hstart hsum hseq) hgo
  have hframe := State.framed_frame hs hgo bytes
  have hbay := State.framed_bay hs hgo bytes
  have hlink := State.framed_linkEvents hs hgo bytes
  have hb : (s.framed b bytes).bay b = { x.begun bytes with supplyFault := !supply, supplyGood := supply } :=
    (hbay b).trans (if_pos rfl)
  have hraw : ∀ p, raw p = (senseEntry bytes p).raw := fun p => (senseEntry_raw bytes p).symm
  obtain ⟨hsupply, hjoined⟩ := Prod.mk.inj hlink
  refine ⟨(s.framed b bytes).driveAttn, ?_, hframe.bus, hframe.mem, hframe.staging, hframe.law, hframe.setup, hframe.cues,
    hframe.recalls, hframe.engine, hframe.run, hframe.limit, ?_, ?_, ?_, ?_, ?_, ?_, ?_, ?_, ?_, ?_, ?_, ?_, ?_, ?_⟩
  · show (s.unlessReset fun t => t.receiveFrame b bytes).done = _
    rw [State.unlessReset, hr, hreceive]
    rfl
  · exact congrArg Bay.state hb
  · exact congrArg Bay.window hb
  · exact congrArg Bay.joinRun hb
  · exact congrArg Bay.missRun hb
  · exact fun p => (congrArg (fun y : Bay => y.fitted.getLsbD p.val) hb).trans (x.begun_fits bytes p)
  · exact congrArg Bay.supplyGood hb
  · exact congrArg Bay.supplyFault hb
  · exact fun c hc => (hbay c).trans (if_neg hc)
  · have hfault : (x.begun bytes).supplyFault = false ↔ ¬fault := by
      rw [← Bool.not_eq_true]; exact not_congr (Bay.begun_supplyFault hgo bytes)
    rw [State.driveAttn_events, hsupply, Bool.or_eq_true, Bool.and_eq_true, Bool.not_eq_true', Bool.not_eq_true', hfault]
    rfl
  · rw [State.driveAttn_events, hjoined, Bool.or_eq_true, decide_eq_true_iff]
  · intro p f
    refine ⟨fun hp => ?_, fun hp => State.framed_hidden hs hgo bytes hp⟩
    have h := State.framed_shown hs hgo bytes hp
    rw [← hraw] at h
    exact h
  · exact fun p hwas hp => State.framed_lost hs hgo bytes hwas hp
  · exact fun f hf => (State.framed_other hs hgo bytes hf).cases_of
  · intro s0 s1 s2 s3 s4 s5 s6
    have hfitted : ((s.framed b bytes).driveAttn.bay b).fitted = senseFitted bytes := congrArg Bay.fitted hb
    have h0 : s0 = s.begun b bytes := by
      simp only [s0, hfitted]
      rfl
    have h1 : s1 = (s.refitted b bytes).arbitrate := by
      simp only [s1, h0]
      rfl
    rw [State.framed_eq hs hgo bytes]
    simp only [s6, s5, s4, s3, s2, h1, hraw]
    rfl

end Sys2Proof.Machine
end

section
/-! Phases Down and Up of a homing on a good frame, and the span check (R62, R63, R64, R66, R67): O51. -/

namespace Sys2Proof.Machine

/-! ### The still run -/

theorem rawDiff_eq (a b : Nat) : rawDiff a b = ((a : Int) - b).natAbs := by
  unfold rawDiff; omega

/-- A frame lengthens the still run by 1, and the first of a run is its reference (R62). -/
theorem Slot.trackStill_eq (sl : Slot) (raw : Nat) :
    sl.trackStill raw = { sl with
      setpoint := raw, stillRun := sl.stillRun + 1, stillRef := if sl.stillRun = 0 then some raw else sl.stillRef } := by
  unfold Slot.trackStill
  split
  · next h => rw [h]
  · rfl

/-- Whether a frame makes the still run of a slot long enough to be judged (R62). -/
def Slot.runEnds (sl : Slot) (g : MotionSetup) : Prop :=
  g.stillFrames ≤ sl.stillRun + 1

/-- Whether a frame finds the fader fewer counts from the reference of the still run than the home still travel (R62). -/
def Slot.barelyMoved (sl : Slot) (raw : Nat) (g : MotionSetup) : Prop :=
  ((raw : Int) - (if sl.stillRun = 0 then raw else sl.stillRef.getD raw : Nat)).natAbs < g.stillTravel

theorem Slot.stillEnd_running {sl : Slot} {g : MotionSetup} (raw : Nat) (h : ¬sl.runEnds g) :
    (sl.trackStill raw).stillEnd raw g = none := by
  rw [sl.trackStill_eq]
  exact if_neg h

theorem Slot.stillEnd_judged {sl : Slot} {raw : Nat} {g : MotionSetup} (h : sl.runEnds g) :
    ∃ b, (sl.trackStill raw).stillEnd raw g = some b ∧ (b = true ↔ sl.barelyMoved raw g) := by
  rw [sl.trackStill_eq]
  refine ⟨_, if_pos h, ?_⟩
  rw [decide_eq_true_iff, rawDiff_eq, Slot.barelyMoved]
  split <;> rfl

theorem Slot.stillEnd_moved {sl : Slot} {raw : Nat} {g : MotionSetup} (h : sl.runEnds g) (hm : ¬sl.barelyMoved raw g) :
    (sl.trackStill raw).stillEnd raw g = some false := by
  obtain ⟨b, hb, hiff⟩ := sl.stillEnd_judged h
  rw [hb, Bool.eq_false_iff.mpr (mt hiff.mp hm)]

theorem Slot.stillEnd_found {sl : Slot} {raw : Nat} {g : MotionSetup} (h : sl.runEnds g) (hm : sl.barelyMoved raw g) :
    (sl.trackStill raw).stillEnd raw g = some true := by
  obtain ⟨b, hb, hiff⟩ := sl.stillEnd_judged h
  rw [hb, hiff.mpr hm]

/-! ### The fader is driven on -/

/-- The drive of a homing that seeks an end of travel: down in phase Down, up in phase Up (R63, R64). -/
def Slot.push (sl : Slot) (x : FaderSetup) : Int :=
  if sl.phase = .down then -(x.homeDrive : Int) else x.homeDrive

/-- A homing that seeks an end of travel and has not found it is driven on, its run begun anew where it ended. -/
theorem State.serveSlot_driveOn {s : State} {i : SlotId} {sl : Slot} {ended : Bool} (hu : sl.use = .homing)
    (hp : sl.phase ≠ .park)
    (h : (sl.trackStill (s.fader sl.fader).raw).stillEnd (s.fader sl.fader).raw s.setup =
      if ended then some false else none) :
    s.serveSlot i sl = s.setSlot i (some ((sl.trackStill (s.fader sl.fader).raw).driveOn ended (s.fader sl.fader).raw
      (sl.push (s.fader sl.fader).setup))) := by
  cases hph : sl.phase with
  | down => cases ended <;> simp only [State.serveSlot, hu, hph, State.serveDown, h, Slot.push] <;> rfl
  | up => cases ended <;> simp only [State.serveSlot, hu, hph, State.serveUp, h, Slot.push] <;> rfl
  | park => exact absurd hph hp

/-- The slot of a homing that is driven on where the fader stands, with its still run and reference (R61, R62). -/
def Slot.seeking (sl : Slot) (x : Fader) (run : Nat) (ref : Option Nat) : Slot :=
  { sl with setpoint := x.raw, stillRun := run, stillRef := ref, drive := sl.push x.setup }

theorem State.serveSlot_running {s : State} {i : SlotId} {sl : Slot} (hu : sl.use = .homing) (hp : sl.phase ≠ .park)
    (h : ¬sl.runEnds s.setup) :
    s.serveSlot i sl = s.setSlot i (some (sl.seeking (s.fader sl.fader) (sl.stillRun + 1)
      (if sl.stillRun = 0 then some (s.fader sl.fader).raw else sl.stillRef))) := by
  rw [State.serveSlot_driveOn (ended := false) hu hp (sl.stillEnd_running _ h), sl.trackStill_eq]
  rfl

theorem State.serveSlot_moved {s : State} {i : SlotId} {sl : Slot} (hu : sl.use = .homing) (hp : sl.phase ≠ .park)
    (h : sl.runEnds s.setup) (hm : ¬sl.barelyMoved (s.fader sl.fader).raw s.setup) :
    s.serveSlot i sl = s.setSlot i (some (sl.seeking (s.fader sl.fader) 1 (some (s.fader sl.fader).raw))) := by
  rw [State.serveSlot_driveOn (ended := true) hu hp (sl.stillEnd_moved h hm), sl.trackStill_eq]
  rfl

/-! ### An end of travel is found -/

/-- The slot as phase Up begins above the low end found (R63). -/
def Slot.turned (sl : Slot) (x : Fader) : Slot :=
  { sl with
    setpoint := x.raw, phase := .up, foundLow := some x.raw, phaseAge := 0, stillRun := 0, stillRef := none,
    drive := x.setup.homeDrive }

theorem State.serveSlot_foundLow {s : State} {i : SlotId} {sl : Slot} (hu : sl.use = .homing) (hp : sl.phase = .down)
    (h : sl.runEnds s.setup) (hm : sl.barelyMoved (s.fader sl.fader).raw s.setup) :
    s.serveSlot i sl = s.setSlot i (some (sl.turned (s.fader sl.fader))) := by
  simp only [State.serveSlot, hu, hp, State.serveDown, sl.stillEnd_found h hm]
  rw [sl.trackStill_eq]
  rfl

/-- Park begins without regard to the still run and the setpoint before it (R67). -/
theorem State.beginPark_trackStill (s : State) (i : SlotId) (sl : Slot) (raw low high : Nat) :
    s.beginPark i (sl.trackStill raw) low high = s.beginPark i sl low high := by
  rw [sl.trackStill_eq]; rfl

/-- A homing fails without regard to its still run and setpoint (R66). -/
theorem State.failHoming_trackStill (s : State) (i : SlotId) (sl : Slot) (raw : Nat) (cause : FaultCause) :
    s.failHoming i (sl.trackStill raw) cause = s.failHoming i sl cause := by
  rw [sl.trackStill_eq]; rfl

/-- A fader found still in phase Up has its span checked on the same frame (R64). -/
theorem State.serveSlot_foundHigh {s : State} {i : SlotId} {sl : Slot} (hu : sl.use = .homing) (hp : sl.phase = .up)
    (h : sl.runEnds s.setup) (hm : sl.barelyMoved (s.fader sl.fader).raw s.setup) :
    s.serveSlot i sl =
      if sl.foundLow.getD (s.fader sl.fader).cal.low + s.setup.minSpan ≤ (s.fader sl.fader).raw then
        s.beginPark i sl (sl.foundLow.getD (s.fader sl.fader).cal.low) (s.fader sl.fader).raw
      else s.failHoming i sl .homeSpan := by
  simp only [State.serveSlot, hu, hp, State.serveUp, sl.stillEnd_found h hm, State.beginPark_trackStill,
    State.failHoming_trackStill]

/-! ### The span check passes: Park -/

/-- A slot filled for a fader that no other slot serves is its one slot. -/
theorem State.setSlot_slotsOf_only {s : State} {i : SlotId} {sl : Slot}
    (h : ∀ j sl', j ≠ i → s.slot j = some sl' → sl'.fader ≠ sl.fader) :
    (s.setSlot i (some sl)).slotsOf sl.fader = onlySlot i sl := by
  have hother : ∀ j, j ≠ i → s.slotsOf sl.fader j = noSlot j := fun j hj =>
    Option.filter_eq_none_iff.mpr fun sl' hsl' => by simpa using h j sl' hj hsl'
  funext j
  by_cases hj : j = i
  · subst hj; simp [onlySlot]
  · simp [onlySlot, Function.update_of_ne hj, hother j hj]

/-- A homing parks at the found low for a target of Off, and else at the recorded position under the pair found (R32, R67). -/
theorem Fader.rawOfPerMille_parkPos (x : Fader) (low high : Nat) :
    rawOfPerMille low high x.parkPos = if x.targetGain = .off then low else rawOfPerMille low high x.targetPos := by
  unfold Fader.parkPos
  cases x.targetGain <;> simp

/-- Park begins in the fader's one slot, its per-mille under the pair found (R58, R67). -/
theorem State.beginPark_only {s : State} {i : SlotId} {sl : Slot} (low high : Nat) (hu : sl.use = .homing)
    (h : ∀ j sl', j ≠ i → s.slot j = some sl' → sl'.fader ≠ sl.fader) :
    s.beginPark i sl low high =
      (s.setSlot i (some (sl.parked (s.fader sl.fader) low high
        (rawOfPerMille low high (s.fader sl.fader).parkPos)))).setFader sl.fader
          { s.fader sl.fader with perMille := perMilleOfRaw low high (s.fader sl.fader).raw } := by
  rw [State.beginPark_eq]
  set park := sl.parked (s.fader sl.fader) low high (rawOfPerMille low high (s.fader sl.fader).parkPos)
  have hn : (s.setSlot i (some park)).slotsOf sl.fader = onlySlot i park := State.setSlot_slotsOf_only h
  have hcal : (s.setSlot i (some park)).calInForce sl.fader = (low, high) :=
    (State.calInForce_of_onlySlot hn).trans (if_pos ⟨hu, rfl⟩)
  rw [State.refreshPerMille, hcal]
  rfl

/-! ### The span check fails -/

/-- A homing in Down or Up that fails leaves its slot and its calibration record but for the latch and cause (R66). -/
theorem State.failHoming_eq (s : State) (i : SlotId) {sl : Slot} (cause : FaultCause) (hp : sl.phase ≠ .park) :
    s.failHoming i sl cause = State.arbitrate
      { (s.setSlot i none).setFader sl.fader
          { s.fader sl.fader with
            motion := .faulted, offTarget := true, cal := { (s.fader sl.fader).cal with latched := true, cause := cause } } with
        completions := writeRecord
          ⟨sl.fader, .homeFailed, .none, .home, 0, sl.marks, false, (s.fader sl.fader).perMille, false⟩ s.completions
        attn := { s.attn with events := { s.attn.events with faderFault := true } } } := by
  rw [State.failHoming, State.dropHoming, if_neg hp]
  rfl

/-- Settles O51: the still run goes on, begins anew, or ends phase Down or phase Up with its span check. -/
theorem homingFindsTravelEnds : Obligations.HomingFindsTravelEnds := by
  unfold Obligations.HomingFindsTravelEnds
  intro i sl s hu hp honly f x run reference ended still push on low target
  refine ⟨fun he => State.serveSlot_running hu hp he, fun he hs => State.serveSlot_moved hu hp he hs,
    fun he hs hd => State.serveSlot_foundLow hu hd he hs, fun he hs hup hspan => ?_, fun he hs hup hspan => ?_⟩
  · have hfits : low + s.setup.minSpan ≤ x.raw := by omega
    have htarget : rawOfPerMille low x.raw x.parkPos = target := x.rawOfPerMille_parkPos low x.raw
    rw [State.serveSlot_foundHigh hu hup he hs, if_pos hfits, State.beginPark_only _ _ hu honly, htarget]
    rfl
  · have hshort : ¬low + s.setup.minSpan ≤ x.raw := by omega
    rw [State.serveSlot_foundHigh hu hup he hs, if_neg hshort, State.failHoming_eq _ _ _ hp]

end Sys2Proof.Machine
end

section
/-! The last reported gain and the membership of the moved set of every fader: outside the moved-set test and the reads and
commands that name them, no action on faders changes either (R82, R83), whatever the state. -/

namespace Sys2Proof.Machine

/-! ### Record updates -/

/-- The last reported gain and the moved-set membership of each fader of a table. -/
def reports (v : Vector Fader 48) (f : FaderId) : Gain × Bool :=
  (v[f].lastReported, v[f].moved)

theorem State.reports_faders (s : State) (f : FaderId) :
    reports s.faders f = ((s.fader f).lastReported, (s.fader f).moved) := rfl

@[simp] theorem State.modFader_reports {s : State} {f : FaderId} {g : Fader → Fader}
    (h : ∀ x, (g x).lastReported = x.lastReported ∧ (g x).moved = x.moved) :
    reports (s.modFader f g).faders = reports s.faders := by
  funext q
  rw [State.reports_faders, State.reports_faders, State.modFader_fader]
  split
  · rw [(h _).1, (h _).2]
  · rfl

@[simp] theorem State.joinQueue_reports (s : State) (f : FaderId) (k : EntryKind) (c : ReqClass) (t : Tag) (r : Nat)
    (m : Marks) : reports (s.joinQueue f k c t r m).faders = reports s.faders :=
  State.modFader_reports (s := s) (g := fun x => { x with motion := .waiting }) fun _ => ⟨rfl, rfl⟩

theorem State.foldl_reports {α : Type} {act : State → α → State}
    (h : ∀ t a, reports (act t a).faders = reports t.faders) (l : List α) (s : State) :
    reports (l.foldl act s).faders = reports s.faders := by
  induction l generalizing s with
  | nil => rfl
  | cons a rest ih => exact (ih _).trans (h s a)

theorem State.forFitted_reports {act : State → Position → State}
    (h : ∀ t p, reports (act t p).faders = reports t.faders) (s : State) (b : BayId) :
    reports (s.forFitted b act).faders = reports s.faders :=
  State.foldl_reports (fun t p => by split <;> [exact h t p; rfl]) _ s

/-! ### Ends of service and the arbiter -/

@[simp] theorem State.leaveQueue_reports (s : State) (f : FaderId) (o : EndOutcome) :
    reports (s.leaveQueue f o).faders = reports s.faders := by
  unfold State.leaveQueue; split <;> simp

@[simp] theorem State.endHold_reports (s : State) (i : SlotId) (sl : Slot) :
    reports (s.endHold i sl).faders = reports s.faders := by
  simp [State.endHold]

@[simp] theorem State.endMove_reports (s : State) (i : SlotId) (sl : Slot) (o : EndOutcome) :
    reports (s.endMove i sl o).faders = reports s.faders := by
  simp [State.endMove]

@[simp] theorem State.dropHoming_reports (s : State) (i : SlotId) (sl : Slot) :
    reports (s.dropHoming i sl).faders = reports s.faders := by
  unfold State.dropHoming; split <;> simp [State.refreshPerMille]

@[simp] theorem State.endHoming_reports (s : State) (i : SlotId) (sl : Slot) (o : EndOutcome) :
    reports (s.endHoming i sl o).faders = reports s.faders := by
  simp [State.endHoming]

@[simp] theorem State.endService_reports (s : State) (f : FaderId) (o : EndOutcome) :
    reports (s.endService f o).faders = reports s.faders := by
  have hslot : ∀ i sl, reports (s.endUse i sl o).faders = reports s.faders := fun i sl => by
    unfold State.endUse; split <;> simp [State.endHoldWith]
  unfold State.endService
  split
  case h_1 => simp
  case h_2 | h_3 | h_4 => split <;> simp [hslot]
  all_goals rfl

@[simp] theorem State.grantTo_reports (s : State) (i : SlotId) (e : Entry) :
    reports (s.grantTo i e).faders = reports s.faders := by
  unfold State.grantTo; split <;> simp

theorem State.arbiterStep_reports {s t : State} (h : s.arbiterStep = some t) : reports t.faders = reports s.faders := by
  rcases MotionFrame.arbiterStep_inv h with h | ⟨-, h⟩
  · obtain ⟨e, rest, i, -, -, -, -, rfl⟩ := MotionFrame.grantStep_inv h
    simp
  · obtain ⟨e, rest, i, sl, -, -, -, -, -, rfl⟩ := MotionFrame.preemptStep_inv h
    simp

@[simp] theorem State.arbitrate_reports (s : State) : reports s.arbitrate.faders = reports s.faders := by
  unfold State.arbitrate
  induction s.queue.entries.length generalizing s with
  | zero => rfl
  | succ k ih =>
    unfold State.arbiterLoop
    split
    · rfl
    · next t h => exact (ih t).trans (State.arbiterStep_reports h)

/-! ### Requests -/

theorem State.acceptHeld_reports (s : State) (r : Request) (c : Conversion) :
    reports (s.acceptHeld r c).faders = reports s.faders := by
  unfold State.acceptHeld; split <;> [simp; simp; (split <;> simp)]

theorem State.acceptMotion_reports (s : State) (r : Request) :
    reports (s.acceptMotion r).faders = reports s.faders := by
  unfold State.acceptMotion
  split
  case h_1 => unfold State.acceptIdle; dsimp only; split <;> simp [State.takeOn]
  case h_2 => unfold State.acceptWaiting; split <;> simp [State.takeOn]
  case h_3 | h_4 => unfold State.acceptDriven; split <;> simp [State.takeOn]
  case h_5 => unfold State.acceptHoming; split <;> simp
  all_goals rfl

@[simp] theorem State.targetFromPresent_reports (s : State) (f : FaderId) :
    reports (s.targetFromPresent f).faders = reports s.faders := by
  simp [State.targetFromPresent]

@[simp] theorem State.accept_reports (s : State) (r : Request) : reports (s.accept r).faders = reports s.faders := by
  have hrecord : ∀ c, reports (s.recordConversion r.fader c).faders = reports s.faders := fun c => by
    simp [State.recordConversion]
  unfold State.accept
  dsimp only
  split
  · rw [State.acceptHeld_reports, hrecord]
  · split
    · simp [hrecord]
    · split <;> simp [State.acceptMotion_reports, State.takeOn, State.recordTarget, hrecord]

/-! ### The servo and homing -/

@[simp] theorem State.beginHold_reports (s : State) (i : SlotId) (sl : Slot) :
    reports (s.beginHold i sl).faders = reports s.faders := by
  unfold State.beginHold
  dsimp only
  split
  · simp
  · exact State.modFader_reports (g := fun x => { x with motion := .holding }) fun _ => ⟨rfl, rfl⟩

@[simp] theorem State.latchFault_reports (s : State) (f : FaderId) (c : FaultCause) :
    reports (s.latchFault f c).faders = reports s.faders := by
  simp [State.latchFault]

theorem State.serveMove_reports (s : State) (i : SlotId) (sl : Slot) :
    reports (s.serveMove i sl).faders = reports s.faders := by
  unfold State.serveMove
  dsimp only
  split
  · simp [State.arrive]
  · split
    · split <;> simp [State.stallMove]
    · simp

theorem State.servePark_reports (s : State) (i : SlotId) (sl : Slot) :
    reports (s.servePark i sl).faders = reports s.faders := by
  unfold State.servePark
  dsimp only
  split
  · simp [State.homed]
  · split
    · split <;> simp [State.stallPark]
    · simp

theorem State.serveDown_reports (s : State) (i : SlotId) (sl : Slot) :
    reports (s.serveDown i sl).faders = reports s.faders := by
  unfold State.serveDown; dsimp only; split <;> simp

theorem State.serveUp_reports (s : State) (i : SlotId) (sl : Slot) :
    reports (s.serveUp i sl).faders = reports s.faders := by
  unfold State.serveUp
  dsimp only
  split
  · split
    · simp [State.beginPark, State.refreshPerMille]
    · simp [State.failHoming]
  all_goals simp

@[simp] theorem State.serveSlot_reports (s : State) (i : SlotId) (sl : Slot) :
    reports (s.serveSlot i sl).faders = reports s.faders := by
  unfold State.serveSlot
  split
  · exact s.serveMove_reports i sl
  · simp [State.serveHold]
  · split
    · exact s.serveDown_reports i sl
    · exact s.serveUp_reports i sl
    · exact s.servePark_reports i sl

@[simp] theorem State.serveFader_reports (s : State) (f : FaderId) (held : Bool) :
    reports (s.serveFader f held).faders = reports s.faders := by
  unfold State.serveFader
  split
  · split <;> simp
  · rfl

/-! ### Touch, positions, supply and fitted bits -/

@[simp] theorem State.abandon_reports (s : State) (f : FaderId) : reports (s.abandon f).faders = reports s.faders := by
  unfold State.abandon
  split
  case h_1 => simp
  case h_2 | h_3 | h_4 =>
    split
    · rfl
    · split <;> simp
  all_goals rfl

@[simp] theorem State.endReleasing_reports (s : State) (f : FaderId) :
    reports (s.endReleasing f).faders = reports s.faders := by
  unfold State.endReleasing; dsimp only; split <;> simp

@[simp] theorem State.enterReleasing_reports (s : State) (f : FaderId) :
    reports (s.enterReleasing f).faders = reports s.faders := by
  unfold State.enterReleasing; dsimp only; split <;> simp

@[simp] theorem State.touchFrame_reports (s : State) (f : FaderId) (bit : Bool) :
    reports (s.touchFrame f bit).faders = reports s.faders := by
  unfold State.touchFrame
  dsimp only
  split
  · split
    · split <;> simp [State.enterTouched]
    · simp
  · split
    · simp
    · split <;> simp
  · split <;> simp

@[simp] theorem State.takePosition_reports (s : State) (f : FaderId) (raw : Nat) :
    reports (s.takePosition f raw).faders = reports s.faders := by
  unfold State.takePosition State.followRaw
  dsimp only
  split <;> simp

@[simp] theorem State.enterFader_reports (s : State) (f : FaderId) :
    reports (s.enterFader f).faders = reports s.faders := by
  simp [State.enterFader]

@[simp] theorem State.fitPosition_reports (s : State) (b : BayId) (was now : BitVec 8) (p : Position) :
    reports (s.fitPosition b was now p).faders = reports s.faders := by
  unfold State.fitPosition; split <;> simp [State.loseFader, Fader.leave]

@[simp] theorem State.takeSupply_reports (s : State) (b : BayId) (bytes : List Byte) :
    reports (s.takeSupply b bytes).faders = reports s.faders := by
  rw [State.takeSupply_eq]
  split
  · simp
  · split
    · simp
    · rw [State.arbitrate_reports, State.failSupply, State.forFitted_reports fun _ _ => by simp]
      simp

end Sys2Proof.Machine
end

section
/-! The moved-set test of one fader, and of the fitted faders of a bay on a good frame (R82). -/

namespace Sys2Proof.Machine

/-! ### The test of one fader (R82) -/

/-- Two gains a report step apart or more, Off being apart from every other gain (R82). -/
def Gain.apart (step : Nat) (g last : Gain) : Prop :=
  (g = .off ∧ last ≠ .off) ∨ (g ≠ .off ∧ last = .off) ∨ ∃ a b, g = .cdb a ∧ last = .cdb b ∧ (step : Int) ≤ |a - b|

theorem gainsDiffer_iff (step : Nat) (g last : Gain) : gainsDiffer step g last = true ↔ g.apart step last := by
  cases g with
  | off => cases last <;> simp [gainsDiffer, Gain.apart]
  | cdb a =>
    cases last with
    | off => simp [gainsDiffer, Gain.apart]
    | cdb b =>
      have : step ≤ (a - b).natAbs ↔ (step : Int) ≤ |a - b| := by rw [Int.abs_eq_natAbs, Int.ofNat_le]
      simpa [gainsDiffer, Gain.apart] using this

/-- A fader after its moved-set test: its last reported gain follows, or it joins the moved set where the two gains are
apart (R82). -/
def Fader.tested (x : Fader) (law : GainLaw) (step : Nat) (follows : Bool) : Fader :=
  if follows then { x with lastReported := gainOfPerMille law x.perMille }
  else if gainsDiffer step (gainOfPerMille law x.perMille) x.lastReported then { x with moved := true }
  else x

theorem Fader.tested_follows (x : Fader) (law : GainLaw) (step : Nat) :
    x.tested law step true = { x with lastReported := gainOfPerMille law x.perMille } := rfl

theorem Fader.tested_joins {x : Fader} {law : GainLaw} {step : Nat}
    (h : (gainOfPerMille law x.perMille).apart step x.lastReported) : x.tested law step false = { x with moved := true } :=
  if_pos ((gainsDiffer_iff ..).mpr h)

theorem Fader.tested_stays {x : Fader} {law : GainLaw} {step : Nat}
    (h : ¬(gainOfPerMille law x.perMille).apart step x.lastReported) : x.tested law step false = x :=
  if_neg (mt (gainsDiffer_iff ..).mp h)

theorem Fader.tested_perMille (x : Fader) (law : GainLaw) (step : Nat) (follows : Bool) :
    (x.tested law step follows).perMille = x.perMille := by
  unfold Fader.tested
  split <;> [rfl; (split <;> rfl)]

/-- The last reported gain stays of a fader that does not follow, which joins the moved set where the gains are apart. -/
theorem Fader.tested_unfollowed (x : Fader) (law : GainLaw) (step : Nat) :
    (x.tested law step false).lastReported = x.lastReported ∧ ((x.tested law step false).moved = true ↔
      x.moved = true ∨ (gainOfPerMille law x.perMille).apart step x.lastReported) := by
  by_cases h : (gainOfPerMille law x.perMille).apart step x.lastReported
  · rw [Fader.tested_joins h]; simp [h]
  · rw [Fader.tested_stays h]; simp [h]

theorem State.setFader_fader_eq_self (s : State) (f : FaderId) : s.setFader f (s.fader f) = s := by
  simp [State.setFader, State.fader]

/-- The moved-set test writes the tested record, and nothing else. -/
theorem State.movedTest_eq (s : State) (f : FaderId) (follows : Bool) : s.movedTest f follows =
    s.setFader f ((s.fader f).tested s.law s.setup.reportStep (follows || (s.slotFor f).isSome)) := by
  unfold State.movedTest Fader.tested
  simp only [State.presentGain, Bool.and_eq_true, Bool.not_eq_true']
  split
  · rfl
  · by_cases hdiff : gainsDiffer s.setup.reportStep (gainOfPerMille s.law (s.fader f).perMille) (s.fader f).lastReported
    · by_cases hmoved : (s.fader f).moved
      · have hsame : { s.fader f with moved := true } = s.fader f := by rw [← hmoved]
        simp [hdiff, hmoved, hsame, s.setFader_fader_eq_self]
      · simp [hdiff, hmoved, State.modFader]
    · simp [hdiff, s.setFader_fader_eq_self]

theorem State.movedTest_only (s : State) (f : FaderId) (follows : Bool) : OnlyAt f s (s.movedTest f follows) := by
  rw [State.movedTest_eq]
  exact .modFader s f fun _ => _

theorem State.movedTest_slotFor (s : State) (f g : FaderId) (follows : Bool) :
    (s.movedTest f follows).slotFor g = s.slotFor g := by
  rw [State.movedTest_eq]; rfl

/-! ### The test of every fitted fader of a bay -/

/-- The moved-set test of the fitted faders of a bay (R82). -/
def State.movedTests (s : State) (b : BayId) (follows : Position → Bool) : State :=
  s.forFitted b fun t p => t.movedTest (faderAt b p) (follows p)

/-- A fitted fader is tested as it was before any test of the bay, and every slot stays. -/
theorem State.movedTests_at {s : State} {b : BayId} (follows : Position → Bool) {p : Position}
    (hp : (s.bay b).fits p = true) :
    let f := faderAt b p
    (s.movedTests b follows).fader f =
        (s.fader f).tested s.law s.setup.reportStep (follows p || (s.slotFor f).isSome) ∧
      (s.movedTests b follows).slotFor f = s.slotFor f := by
  intro f
  have hmem : p ∈ (List.finRange 8).filter fun q => (s.bay b).fits q := by simpa using hp
  obtain ⟨u, hframe, hbefore, hafter⟩ := foldl_passes (P := MotionFrame s) (F := faderAt b)
    (act := fun t q => t.movedTest (faderAt b q) (follows q)) (nodup_faderAt_filter b _)
    (fun _ _ _ h => h.trans (.movedTest ..)) (fun t q => t.movedTest_only _ _) (.refl s) hmem
  rw [← State.forFitted_eq_foldl (fun _ => rfl)] at hafter
  have hslot : u.slotFor f = s.slotFor f := hbefore.same.slotFor
  refine ⟨?_, hafter.same.slotFor.trans ?_⟩
  · rw [State.movedTests, hafter.same.fader, State.movedTest_eq, State.setFader_fader_self, hbefore.same.fader, hslot,
      hframe.law, hframe.setup]
  · rw [u.movedTest_slotFor]
    exact hslot

/-! ### A good frame before its moved-set test -/

/-- Touch, and the servo and homing, of a good frame (R49, R72). -/
def State.attended (s arrival : State) (b : BayId) (bytes : List Byte) : State :=
  (s.forFitted b fun t p => t.touchFrame (faderAt b p) (senseEntry bytes p).touch).forFitted b fun t p =>
    t.serveFader (faderAt b p) (arrival.slotFor (faderAt b p)).isSome

/-- Every step of a good frame that a bay takes but the moved-set test (R134). -/
def State.untested (s : State) (b : BayId) (bytes : List Byte) : State :=
  ((((s.ready b bytes).refit b bytes).arbitrate.takeSupply b bytes).positioned b bytes).attended s b bytes

theorem State.attended_frame (s arrival : State) (b : BayId) (bytes : List Byte) :
    MotionFrame s (s.attended arrival b bytes) :=
  (MotionFrame.forFitted b (fun t p => t.touchFrame (faderAt b p) (senseEntry bytes p).touch) (fun _ _ => .touchFrame ..)
    s).trans (.forFitted b _ (fun _ _ => .serveFader ..) _)

theorem State.ready_frame (s : State) (b : BayId) (bytes : List Byte) : s.LinkFrame (s.ready b bytes) := by
  have hmod : ∀ (t : State) g, t.LinkFrame (t.modBay b g) := fun t _ => t.withBay_linkFrame b _ _
  have hjoin : ∀ t : State, t.LinkFrame (t.joinBay b bytes) := fun t =>
    (hmod t _).trans ((MotionFrame.forFitted b _ (fun _ _ => .enterFader ..) _).trans (.raise ..)).linkFrame
  unfold State.ready
  dsimp only
  split
  · exact (hmod s _).trans (hmod _ _)
  · exact ((hmod s _).trans (hjoin _)).trans (hmod _ _)

theorem State.refit_frame (s : State) (b : BayId) (bytes : List Byte) : s.LinkFrame (s.refit b bytes) :=
  (MotionFrame.foldl (fun t p => t.fitPosition b (s.bay b).fitted (senseFitted bytes) p)
    (fun t p => t.fitPosition_frame b _ _ p) _ s).linkFrame.trans (State.withBay_linkFrame _ b _ _)

theorem State.untested_frame (s : State) (b : BayId) (bytes : List Byte) : s.LinkFrame (s.untested b bytes) :=
  (((((s.ready_frame b bytes).trans (State.refit_frame _ b bytes)).trans (MotionFrame.arbitrate _).linkFrame).trans
    (State.takeSupply_frame _ b bytes)).trans (State.positioned_frame _ b bytes).linkFrame).trans
    (State.attended_frame _ s b bytes).linkFrame

/-- The faders tested are those that the frame says are fitted. -/
theorem State.untested_fits (s : State) (b : BayId) (bytes : List Byte) (p : Position) :
    ((s.untested b bytes).bay b).fits p = senseFits bytes p := by
  have hrefit : ∀ t : State, ((t.refit b bytes).bay b).fitted = senseFitted bytes := fun t =>
    congrArg Bay.fitted (State.modBay_bay_self _ b _)
  have hfitted : ((s.untested b bytes).bay b).fitted = senseFitted bytes := by
    have hsupply := ((s.ready b bytes).refit b bytes).arbitrate.takeSupply_bay b bytes b
    rw [if_pos rfl] at hsupply
    rw [State.untested, State.bay, (State.attended_frame _ s b bytes).bays, (State.positioned_frame _ b bytes).bays]
    refine (congrArg Bay.fitted hsupply).trans ?_
    simpa only [State.bay, (MotionFrame.arbitrate _).bays] using hrefit (s.ready b bytes)
  rw [Bay.fits, hfitted]
  exact senseFitted_getLsbD bytes p

theorem State.ready_reports (s : State) (b : BayId) (bytes : List Byte) :
    reports (s.ready b bytes).faders = reports s.faders := by
  unfold State.ready
  dsimp only
  split
  · rfl
  · simp only [State.modBay_faders, State.joinBay, State.raise_faders]
    rw [State.forFitted_reports fun _ _ => by simp]
    rfl

theorem State.untested_reports (s : State) (b : BayId) (bytes : List Byte) :
    reports (s.untested b bytes).faders = reports s.faders := by
  rw [State.untested, State.attended, State.forFitted_reports fun _ _ => by simp,
    State.forFitted_reports fun _ _ => by simp, State.positioned, State.forFitted_reports fun _ _ => by simp,
    State.takeSupply_reports, State.arbitrate_reports, State.refit, State.modBay_faders,
    State.foldl_reports fun _ _ => by simp, State.ready_reports]

theorem State.untested_fader (s : State) (b : BayId) (bytes : List Byte) (f : FaderId) :
    ((s.untested b bytes).fader f).lastReported = (s.fader f).lastReported ∧
      ((s.untested b bytes).fader f).moved = (s.fader f).moved :=
  Prod.mk.inj (congrFun (s.untested_reports b bytes) f)

/-- A fader that a frame shows is tested as the steps before the test leave it; it follows when it held a slot or was Absent
as the frame arrived, and when it is in a slot as the frame ends (R82). -/
theorem State.receiveFrame_tested {s : State} {b : BayId} {bytes : List Byte} (hopen : (s.bay b).window = .opened)
    (hgood : goodFrame bytes (s.bay b).seq = true) (hgo : (s.bay b).takes) {p : Position} (hp : senseFits bytes p = true) :
    let f := faderAt b p
    let t := s.receiveFrame b bytes
    let tested := ((s.untested b bytes).fader f).tested s.law s.setup.reportStep
    let follows := s.slotFor f ≠ none ∨ (s.fader f).motion = .absent ∨ t.slotFor f ≠ none
    (follows → t.fader f = tested true) ∧ (¬follows → t.fader f = tested false) := by
  intro f t tested follows
  set arrived : Position → Bool := fun p =>
    (s.slotFor (faderAt b p)).isSome || (s.fader (faderAt b p)).motion == .absent
  have ht : t = (s.untested b bytes).movedTests b arrived := State.receiveFrame_taken hopen hgood hgo
  have hframe := s.untested_frame b bytes
  obtain ⟨hfader, hslot⟩ := State.movedTests_at arrived ((s.untested_fits b bytes p).trans hp)
  rw [hframe.law, hframe.setup, ← hslot, ← ht] at hfader
  have hfollows : (arrived p || (t.slotFor f).isSome) = true ↔ follows := by
    rw [Bool.or_eq_true, Bool.or_eq_true, beq_iff_eq, Option.isSome_iff_ne_none, Option.isSome_iff_ne_none, or_assoc]
  exact ⟨fun h => hfader.trans (congrArg tested (hfollows.mpr h)),
    fun h => hfader.trans (congrArg tested (Bool.eq_false_iff.mpr (mt hfollows.mp h)))⟩

end Sys2Proof.Machine
end

section
/-! The moved words' removing reads (R83), and with the test of a frame (R82): O34. -/

namespace Sys2Proof.Machine

/-! ### The moved words -/

theorem putFlag_getLsbD (k : Nat) (b : Bool) {i : Nat} (hi : i < 32) :
    (putFlag k b).getLsbD i = (decide (k = i) && b) := by
  rw [putFlag, putNat_getLsbD]
  by_cases h : k = i
  · subst h; cases b <;> simp [hi]
  · have hno : (decide (k ≤ i) && decide (i - k < 1)) = false := by
      rw [← Bool.decide_and, decide_eq_false_iff_not]; omega
    rw [Bool.and_assoc (decide (i < 32)), hno]
    simp [h]

/-- The indications that a list of faders puts into a word. -/
theorem foldl_putFlag_getLsbD (covers moved : FaderId → Bool) (l : List FaderId) (v : Word) {i : Nat} (hi : i < 32) :
    (l.foldl (fun acc f => if covers f then acc ||| putFlag (f.val % 32) (moved f) else acc) v).getLsbD i = true ↔
      v.getLsbD i = true ∨ ∃ f ∈ l, covers f = true ∧ f.val % 32 = i ∧ moved f = true := by
  induction l generalizing v with
  | nil => simp
  | cons g rest ih =>
    rw [List.foldl_cons, ih, List.exists_mem_cons_iff, ← or_assoc]
    refine or_congr_left ?_
    cases covers g with
    | false => simp
    | true => simp [putFlag_getLsbD _ _ hi]

/-- The first fader of the range of a moved word, and the fader after its last. -/
def movedBounds : MovedHalf → Nat × Nat
  | .low => (0, 32)
  | .high => (32, 48)

theorem movedCovers_iff (h : MovedHalf) (f : FaderId) :
    movedCovers h f = true ↔ (movedBounds h).1 ≤ f.val ∧ f.val < (movedBounds h).2 := by
  cases h <;> simp [movedCovers, movedBounds]

theorem State.movedWord_getLsbD (s : State) (h : MovedHalf) {i : Nat} (hi : i < 32) :
    (s.movedWord h).getLsbD i = true ↔
      ∃ f : FaderId, f.val = (movedBounds h).1 + i ∧ f.val < (movedBounds h).2 ∧ (s.fader f).moved = true := by
  have hplace : ∀ f : FaderId, movedCovers h f = true ∧ f.val % 32 = i ↔
      f.val = (movedBounds h).1 + i ∧ f.val < (movedBounds h).2 := fun f => by
    rw [movedCovers_iff]
    cases h <;> simp only [movedBounds] <;> omega
  rw [State.movedWord, foldl_putFlag_getLsbD (movedCovers h) (fun f => (s.fader f).moved) _ _ hi]
  simp [← and_assoc, hplace]

theorem State.takeMoved_fader (s : State) (h : MovedHalf) (f : FaderId) : (s.takeMoved h).fader f =
    if (movedBounds h).1 ≤ f.val ∧ f.val < (movedBounds h).2 ∧ (s.fader f).moved = true then
      { s.fader f with moved := false, lastReported := gainOfPerMille s.law (s.fader f).perMille }
    else s.fader f := by
  simp only [State.takeMoved, State.mapFaders_fader, Bool.and_eq_true, movedCovers_iff, and_assoc]

/-- What a read of a moved word answers (R83). -/
theorem State.answers_movedWordRead {s : State} (hr : s.bus.inReset = false) (h : MovedHalf) :
    s.answers (.movedWordRead h) { s with
      faders := (s.takeMoved h).faders, bus := { s.bus with readData := Lanes.full (s.movedWord h) } } :=
  congrArg State.done (State.readWord_live hr (w := .moved h) rfl _)

/-! ### The statement -/

/-- Outside RESET an event of the part's own blocks is taken (R131, R141). -/
theorem State.unlessReset_live {s : State} (hr : s.bus.inReset = false) (act : State → State) :
    s.unlessReset act = act s := by
  simp [State.unlessReset, hr]

/-- A frame is received outside RESET (R131). -/
theorem State.answers_senseFrame {s : State} (hr : s.bus.inReset = false) (b : BayId) (bytes : List Byte) :
    s.answers (.senseFrame b bytes) (s.receiveFrame b bytes) :=
  congrArg State.done (State.unlessReset_live hr fun t => t.receiveFrame b bytes)

/-- Settles O34: the moved words from their faders, the frame's test from the state before it, and the test by its cases. -/
theorem movedSetAndItsWords : Obligations.MovedSetAndItsWords := by
  unfold Obligations.MovedSetAndItsWords
  intro differs
  refine ⟨fun h s hr => ?_, fun b bytes s hr hlen hopen hstart hsum hseq hgo => ?_, fun f follows s => ?_⟩
  · intro lo hi
    have hlo : (movedBounds h).1 = lo := by cases h <;> rfl
    have hhi : (movedBounds h).2 = hi := by cases h <;> rfl
    rw [← hlo, ← hhi]
    exact ⟨s.movedWord h, s.takeMoved h, State.answers_movedWordRead hr h, fun _ hi => s.movedWord_getLsbD h hi,
      s.takeMoved_fader h⟩
  · refine ⟨_, State.answers_senseFrame hr b bytes, fun p hp => ?_⟩
    intro x y g follows
    obtain ⟨hlast, hmoved⟩ := s.untested_fader b bytes (faderAt b p)
    obtain ⟨hyes, hno⟩ := State.receiveFrame_tested hopen (goodFrame_of hlen hstart hsum hseq) hgo hp
    refine ⟨fun h => ?_, fun h => ?_⟩
    · have hy : y = _ := hyes h
      simp only [g, hy]
      exact ⟨rfl, hmoved⟩
    · have hy : y = _ := hno h
      simp only [g, hy, Fader.tested_perMille, x, ← hlast, ← hmoved]
      exact Fader.tested_unfollowed ..
  · intro x g
    rw [State.movedTest_eq]
    refine ⟨fun h => ?_, fun hf hslot hdiff => ?_, fun hf hslot hdiff => ?_⟩
    · have hfollows : (follows || (s.slotFor f).isSome) = true := by
        rwa [Bool.or_eq_true, Option.isSome_iff_ne_none]
      rw [hfollows, Fader.tested_follows]
    · rw [hf, hslot]
      exact congrArg (s.setFader f) (Fader.tested_joins hdiff)
    · rw [hf, hslot]
      exact (congrArg (s.setFader f) (Fader.tested_stays hdiff)).trans (s.setFader_fader_eq_self f)

end Sys2Proof.Machine
end

section
/-! The end of Releasing (R75, R80): O38. -/

namespace Sys2Proof.Machine

/-- RELEASING_END, where the coming expiry brings the guard timer to 0 (R75). -/
theorem State.guardEvent_ends {s : State} {f : FaderId} (ht : (s.fader f).touch = .releasing)
    (hg : (s.fader f).guardTimer ≤ 1) : s.guardEvent f = s.endReleasing f := by
  have hzero : (s.fader f).guardTimer - 1 = 0 := by omega
  rw [State.guardEvent, Fader.tick, if_pos ht]
  exact if_pos ⟨ht, hzero⟩

/-- RELEASING_END, where the coming expiry does not (R75). -/
theorem State.guardEvent_idle {s : State} {f : FaderId}
    (h : (s.fader f).touch ≠ .releasing ∨ 1 < (s.fader f).guardTimer) : s.guardEvent f = s := by
  have hnot : ¬((s.fader f).tick.touch = .releasing ∧ (s.fader f).tick.guardTimer = 0) := by
    rw [Fader.tick_touch]
    rintro ⟨ht, hzero⟩
    rw [Fader.tick, if_pos ht] at hzero
    have hrun : 1 < (s.fader f).guardTimer := h.resolve_left (not_not_intro ht)
    have : (s.fader f).guardTimer - 1 = 0 := hzero
    omega
  exact if_neg hnot

/-- A fader that the operator no longer holds, its pending target taken (R80). -/
def Fader.released (x : Fader) : Fader :=
  { x with touch := .untouched, touchRun := 0, guardTimer := 0, pendingTarget := none }

/-- In Follow mode the pending target is reissued as it was recorded (R80). -/
theorem State.endReleasing_follow {s : State} {f : FaderId} {p : PendingTarget} (hm : (s.fader f).mode = .follow)
    (hp : (s.fader f).pendingTarget = some p) :
    s.endReleasing f = (s.setFader f (s.fader f).released).accept ⟨f, p.gain, p.cls, p.tag, p.ramp, p.marks⟩ := by
  simp only [State.endReleasing, hm, hp]
  rfl

/-- In every other mode, and with no pending target, the fader's target is where it stands (R80). -/
theorem State.endReleasing_settles {s : State} {f : FaderId}
    (h : (s.fader f).mode ≠ .follow ∨ (s.fader f).pendingTarget = none) :
    s.endReleasing f = s.setFader f { (s.fader f).released with
      targetGain := gainOfPerMille s.law (s.fader f).perMille, targetPos := (s.fader f).perMille, offTarget := false } := by
  have hpresent : (s.setFader f (s.fader f).released).targetFromPresent f = s.setFader f { (s.fader f).released with
      targetGain := gainOfPerMille s.law (s.fader f).perMille, targetPos := (s.fader f).perMille, offTarget := false } := by
    rw [State.targetFromPresent, State.modFader_setFader, State.presentGain, State.setFader_fader_self]
    rfl
  rw [← hpresent, State.endReleasing]
  split
  · next p hm hp => exact absurd h (by simp [hm, hp])
  · rfl

/-- RELEASING_END takes its event outside RESET. -/
theorem State.answers_releasingEnd {s : State} (hr : s.bus.inReset = false) (f : FaderId) :
    s.answers (.releasingEnd f) (s.guardEvent f) :=
  congrArg State.done (State.unlessReset_live hr fun t => t.guardEvent f)

/-- Settles O38: the event ends Releasing or does nothing by the guard timer, and the end goes by the mode. -/
theorem releasingEndSettlesTarget : Obligations.ReleasingEndSettlesTarget := by
  unfold Obligations.ReleasingEndSettlesTarget
  intro f s hr x y g
  have hanswer := State.answers_releasingEnd hr f
  refine ⟨fun ht hg => ?_, fun h => ?_⟩
  · rw [State.guardEvent_ends ht hg] at hanswer
    refine ⟨fun p hm hp => ?_, fun h => ?_⟩
    · rwa [State.endReleasing_follow hm hp] at hanswer
    · rwa [State.endReleasing_settles h] at hanswer
  · rwa [State.guardEvent_idle h] at hanswer

end Sys2Proof.Machine
end

section
/-! Staging words (R91, R104, R122, R155): O22. -/

namespace Sys2Proof.Machine

/-- A staging write reaches memory on the lanes written, and the part's copy captures them (R155). -/
theorem State.writes_staging {s : State} (hr : s.bus.inReset = false) (w : StagingWord) (l : Lanes) :
    s.writes (.stagingWrite w l) (ImageWord.staging w).offset l { s with staging := s.staging.capture w l } :=
  State.writes_of_store (w := .staging w) (congrArg State.done (State.onBus_live hr ..)) rfl rfl

/-- Settles O22: the capture of each staging word. -/
theorem stagingWritesAreCopied : Obligations.StagingWritesAreCopied := by
  unfold Obligations.StagingWritesAreCopied
  intro l s hr
  have hwrite := fun w => State.writes_staging hr w l
  exact ⟨hwrite .cueTag, hwrite .cueDue, hwrite .cueGain, hwrite .cueGuard, hwrite .taperCount,
    fun k => hwrite (.taperPoint k), fun i => hwrite (.scaleThreshold i), fun j => hwrite (.recallPair j)⟩

end Sys2Proof.Machine
end

section
/-! Due comparison (R88): the lead, and the lateness of a due cue, as numbers; O27. -/

namespace Sys2Proof.Machine

/-- A difference of two times, from the reverse difference. -/
theorem toNat_sub_rev (a b : BitVec 32) : (b - a).toNat = (2 ^ 32 - (a - b).toNat) % 2 ^ 32 := by
  rw [← neg_sub a b, BitVec.toNat_neg]

/-- A due time is due exactly when its lead is 0 or below, and then its lateness is the lead's negative (R88). -/
theorem isDue_iff_lead (due now : BitVec 32) : isDue due now = true ↔ leadOf due now ≤ 0 := by
  have hd := (due - now).isLt
  simp only [isDue, leadOf, decide_eq_true_eq, toNat_sub_rev due now]
  split <;> omega

theorem lateness_eq_neg_lead {due now : BitVec 32} (h : isDue due now = true) :
    (lateness due now : Int) = -leadOf due now := by
  have hd := (due - now).isLt
  simp only [isDue, decide_eq_true_eq, toNat_sub_rev due now] at h
  simp only [lateness, leadOf, toNat_sub_rev due now]
  split <;> omega

theorem leadOf_range (due now : BitVec 32) : -(2 ^ 31 - 1) ≤ leadOf due now ∧ leadOf due now ≤ 2 ^ 31 := by
  have hd := (due - now).isLt
  unfold leadOf
  dsimp only
  split <;> constructor <;> omega

theorem leadOf_congr (due now : BitVec 32) : (2 ^ 32 : Int) ∣ leadOf due now - ((due.toNat : Int) - now.toNat) := by
  have hd := due.isLt
  have hn := now.isLt
  unfold leadOf
  rw [BitVec.toNat_sub]
  dsimp only
  split <;> omega

/-- Settles O27: the lead's range and congruence, and what it says of a due cue. -/
theorem leadAndLatenessOfCues : Obligations.LeadAndLatenessOfCues := by
  unfold Obligations.LeadAndLatenessOfCues
  intro due now
  exact ⟨(leadOf_range due now).1, (leadOf_range due now).2, leadOf_congr due now, isDue_iff_lead due now,
    fun h => ⟨lateness_eq_neg_lead h, of_decide_eq_true h⟩⟩

end Sys2Proof.Machine
end

section
/-! The capture and the cancel of cues (R90, R93, R94, R95): O28. -/

namespace Sys2Proof.Machine

/-! ### The place of a new cue (R90, R94) -/

theorem Cue.ahead_of_lead {now : BitVec 32} {c x : Cue} (h : leadOf c.due now < leadOf x.due now) :
    c.ahead now x = true := by
  simp [Cue.ahead, h]

/-- A cue of a newer capture number is not ahead of one whose lead is no greater (R90). -/
theorem Cue.not_ahead_of_older {now : BitVec 32} {c x : Cue} (hlead : leadOf x.due now ≤ leadOf c.due now)
    (hcap : x.capture < c.capture) : c.ahead now x = false := by
  simp only [Cue.ahead, Bool.or_eq_false_iff, Bool.and_eq_false_iff, decide_eq_false_iff_not]
  omega

/-- A cue takes its place behind the cues that it is not ahead of (R90). -/
theorem insertCue_between {now : BitVec 32} {c : Cue} {before after : List Cue}
    (hbefore : ∀ x ∈ before, c.ahead now x = false) (hafter : ∀ x ∈ after, c.ahead now x = true) :
    insertCue now c (before ++ after) = before ++ c :: after := by
  induction before with
  | nil =>
    cases after with
    | nil => rfl
    | cons x rest => exact if_pos (hafter x List.mem_cons_self)
  | cons x rest ih =>
    have hx : ¬c.ahead now x = true := by simp [hbefore x List.mem_cons_self]
    rw [List.cons_append, insertCue, if_neg hx, ih fun y hy => hbefore y (List.mem_cons_of_mem _ hy)]
    rfl

/-! ### The capture of a cue (R94) -/

theorem Cue.isFor_iff (c : Cue) (f : FaderId) (due : BitVec 32) : c.isFor f due = true ↔ c.fader = f ∧ c.due = due := by
  simp [Cue.isFor]

/-- A cue for the fader and due time takes the staged content in its place (R94). -/
theorem CueList.capture_replaces {l : CueList} {f : FaderId} {g : StagedCue}
    (h : ∃ c ∈ l.cues, c.fader = f ∧ c.due = g.due) (guard : GuardMode) :
    l.capture f g guard = { l with cues := l.cues.map fun c =>
      if c.fader = f ∧ c.due = g.due then
        { c with gain := g.gain, ramp := g.ramp, tag := g.tag, group := g.group, guard := guard }
      else c } := by
  have hany : (l.cues.any fun c => c.isFor f g.due) = true := by simpa [Cue.isFor_iff] using h
  simp only [CueList.capture, if_pos hany, Cue.isFor_iff]

/-- With no cue for the fader and due time, a new one stands behind every cue of a smaller lead and every older one of its
own (R90, R94). -/
theorem CueList.capture_adds {l : CueList} {f : FaderId} {g : StagedCue} {before after : List Cue}
    (hlist : l.cues = before ++ after) (h : ∀ c ∈ l.cues, ¬(c.fader = f ∧ c.due = g.due) ∧ c.capture < l.nextCapture)
    (hbefore : ∀ c ∈ before, leadOf c.due l.surface ≤ leadOf g.due l.surface)
    (hafter : ∀ c ∈ after, leadOf g.due l.surface < leadOf c.due l.surface) (guard : GuardMode) :
    l.capture f g guard = { l with
      cues := before ++ ⟨f, g.due, g.gain, g.ramp, g.tag, g.group, guard, l.nextCapture⟩ :: after
      nextCapture := l.nextCapture + 1 } := by
  have hnone : ¬(l.cues.any fun c => c.isFor f g.due) = true := by
    simpa [Cue.isFor_iff] using fun c hc => (h c hc).1
  have holder : ∀ c ∈ before, c.capture < l.nextCapture := fun c hc =>
    (h c (hlist ▸ List.mem_append_left _ hc)).2
  rw [CueList.capture, if_neg hnone, hlist, insertCue_between (fun c hc => ?_) fun c hc => ?_]
  · exact Cue.not_ahead_of_older (hbefore c hc) (holder c hc)
  · exact Cue.ahead_of_lead (hafter c hc)

/-! ### The checks of an arm (R93) -/

theorem GuardMode.ofCode_eq_none {n : Nat} (h : 3 < n) : GuardMode.ofCode n = none :=
  match n, h with
  | _ + 4, _ => rfl

theorem State.arm_badFader {s : State} (h : 48 ≤ s.staging.cue.fader) : s.arm = s.refuse .cueBadFader :=
  dif_neg (Nat.not_lt.mpr h)

theorem State.arm_badRamp {s : State} (hf : s.staging.cue.fader < 48) (h : 5000 < s.staging.cue.ramp) :
    s.arm = s.refuse .cueBadRamp :=
  (dif_pos hf).trans (if_pos h)

theorem State.arm_badGuard {s : State} (hf : s.staging.cue.fader < 48) (hr : s.staging.cue.ramp ≤ 5000)
    (h : 3 < s.staging.cue.guardCode) : s.arm = s.refuse .cueBadGuard := by
  have hramp : ¬Config.maxRamp < s.staging.cue.ramp := Nat.not_lt.mpr hr
  simp only [State.arm, dif_pos hf, if_neg hramp, GuardMode.ofCode_eq_none h]

/-- The last check of an arm, the others passed: room in the list, unless the capture is in place (R93, R94). -/
theorem State.arm_checked {s : State} {f : FaderId} {guard : GuardMode} (hf : f.val = s.staging.cue.fader)
    (hr : s.staging.cue.ramp ≤ 5000) (hg : GuardMode.ofCode s.staging.cue.guardCode = some guard) :
    s.arm = if s.cues.cues.length < 256 ∨ ∃ c ∈ s.cues.cues, c.fader = f ∧ c.due = s.staging.cue.due then
        { s with cues := s.cues.capture f s.staging.cue guard }
      else s.refuse .cueListFull := by
  have hlt : s.staging.cue.fader < 48 := hf ▸ f.isLt
  have hramp : ¬Config.maxRamp < s.staging.cue.ramp := Nat.not_lt.mpr hr
  obtain rfl : f = ⟨s.staging.cue.fader, hlt⟩ := Fin.ext hf
  simp only [State.arm, dif_pos hlt, if_neg hramp, hg, Bool.or_eq_true, decide_eq_true_eq, List.any_eq_true, Cue.isFor_iff]
  rfl

theorem State.arm_frame (s : State) : s.arm.mem = s.mem ∧ s.arm.bus = s.bus := by
  unfold State.arm
  dsimp only
  split
  · split
    · exact ⟨rfl, rfl⟩
    · split
      · exact ⟨rfl, rfl⟩
      · split <;> exact ⟨rfl, rfl⟩
  · exact ⟨rfl, rfl⟩

/-! ### The cancel (R95, R157) -/

theorem upperTag_eq (u : UpperLanes) :
    upperTag u = BitVec.ofNat 16 ((u.lane2.getD 0).toNat + 256 * (u.lane3.getD 0).toNat) := by
  refine BitVec.eq_of_toNat_eq ?_
  have h2 := (u.lane2.getD 0).isLt
  have h3 := (u.lane3.getD 0).isLt
  rw [upperTag, BitVec.toNat_append, ← Nat.shiftLeft_add_eq_or_of_lt h2, Nat.shiftLeft_eq, BitVec.toNat_ofNat]
  omega

theorem State.cancelCues_eq (s : State) (tag : Tag) : s.cancelCues tag = { s with cues := { s.cues with
    cues := s.cues.cues.filter fun c => decide (tag ≠ 0xFFFF ∧ c.tag ≠ tag) } } := by
  simp only [State.cancelCues, ← Bool.decide_and]
  rfl

/-! ### The statement -/

theorem State.writes_cueArm {s : State} (hr : s.bus.inReset = false) (u : UpperLanes) :
    s.writes (.cueArm u) 0x044 (u.withCode 0x5A) s.arm :=
  State.writes_of_pulse (cw := .cueArm) (take := State.arm) hr rfl s.arm_frame.1 (by
    rw [State.imageBase, s.arm_frame.2]; rfl)

/-- Settles O28: an arm by its checks in order, and the filter that a cancel is. -/
theorem cueArmAndCancel : Obligations.CueArmAndCancel := by
  unfold Obligations.CueArmAndCancel
  constructor
  · intro u s hr l g fader ramp mode refused
    have hwrite := State.writes_cueArm hr u
    refine ⟨fun h => ?_, fun hf h => ?_, fun hf hramp h => ?_, fun f guard hf hramp hmode => ?_⟩
    · rwa [State.arm_badFader h] at hwrite
    · rwa [State.arm_badRamp hf h] at hwrite
    · rwa [State.arm_badGuard hf hramp h] at hwrite
    · have hguard : GuardMode.ofCode mode = some guard := by rw [hmode]; cases guard <;> rfl
      rw [State.arm_checked hf hramp hguard] at hwrite
      refine ⟨fun hnone hfull => ?_, fun hsome => ?_, fun before after hlist hroom hnone hbefore hafter => ?_⟩
      · have hnot : ¬(s.cues.cues.length < 256 ∨ ∃ c ∈ s.cues.cues, c.fader = f ∧ c.due = s.staging.cue.due) :=
          not_or.mpr ⟨Nat.not_lt.mpr hfull, fun ⟨c, hc, h⟩ => hnone c hc h⟩
        rwa [if_neg hnot] at hwrite
      · rwa [if_pos (.inr hsome), CueList.capture_replaces hsome] at hwrite
      · rwa [if_pos (.inl hroom), CueList.capture_adds (g := s.staging.cue) hlist hnone hbefore hafter] at hwrite
  · intro u s hr tag
    have hwrite : s.writes (.cueCancel u) 0x048 (u.withCode 0x3C) (s.cancelCues (upperTag u)) :=
      State.writes_of_pulse (cw := .cueCancel) (take := fun t => t.cancelCues (upperTag u)) hr rfl rfl rfl
    rwa [upperTag_eq, State.cancelCues_eq] at hwrite

end Sys2Proof.Machine
end

section
/-! The stage of the advance in a target request: acceptance neither reads it nor changes it, so that it may be set before or
after (R14 to R18, R43, R45). A tool of O39. -/

namespace Sys2Proof.Machine

/-! ### The arbiter -/

theorem State.grantTo_setAdvance (s : State) (a : AdvanceStage) (i : SlotId) (e : Entry) :
    (s.setAdvance a).grantTo i e = (s.grantTo i e).setAdvance a := by
  unfold State.grantTo
  cases e.kind <;> rfl

theorem State.grantStep_setAdvance (s : State) (a : AdvanceStage) :
    (s.setAdvance a).grantStep = s.grantStep.map fun t => t.setAdvance a := by
  have hfree : (s.setAdvance a).freeSlot? = s.freeSlot? := rfl
  unfold State.grantStep
  rw [hfree, State.setAdvance_queue]
  cases s.queue.run with
  | stopped => rfl
  | running =>
    cases s.queue.entries with
    | nil => rfl
    | cons e rest =>
      cases s.freeSlot? with
      | none => rfl
      | some i =>
        dsimp only
        rw [State.grantTo_setAdvance, apply_ite (Option.map _)]
        rfl

theorem State.preemptStep_setAdvance (s : State) (a : AdvanceStage) :
    (s.setAdvance a).preemptStep = s.preemptStep.map fun t => t.setAdvance a := by
  have hold : (s.setAdvance a).oldestHold? = s.oldestHold? := rfl
  have hslot : ∀ i, (s.setAdvance a).slot i = s.slot i := fun _ => rfl
  unfold State.preemptStep
  rw [hold, State.setAdvance_queue]
  cases s.queue.run with
  | stopped => rfl
  | running =>
    cases s.queue.entries with
    | nil => rfl
    | cons e rest =>
      cases s.oldestHold? with
      | none => rfl
      | some i =>
        dsimp only
        rw [hslot]
        cases s.slot i with
        | none => rw [apply_ite (Option.map _)]; rfl
        | some sl =>
          have hend : (s.setAdvance a).endHold i sl = (s.endHold i sl).setAdvance a := rfl
          dsimp only
          rw [hend, State.grantTo_setAdvance, apply_ite (Option.map _)]
          rfl

theorem State.arbiterStep_setAdvance (s : State) (a : AdvanceStage) :
    (s.setAdvance a).arbiterStep = s.arbiterStep.map fun t => t.setAdvance a := by
  unfold State.arbiterStep
  rw [State.grantStep_setAdvance, State.preemptStep_setAdvance]
  cases s.grantStep <;> rfl

theorem State.arbitrate_setAdvance (s : State) (a : AdvanceStage) :
    (s.setAdvance a).arbitrate = s.arbitrate.setAdvance a := by
  have hloop : ∀ (n : Nat) (t : State), (t.setAdvance a).arbiterLoop n = (t.arbiterLoop n).setAdvance a := by
    intro n
    induction n with
    | zero => exact fun _ => rfl
    | succ n ih =>
      intro t
      rw [State.arbiterLoop, State.arbiterLoop, State.arbiterStep_setAdvance]
      cases t.arbiterStep with
      | none => rfl
      | some u => exact ih u
  exact hloop _ s

/-! ### Acceptance (R14, R18) -/

theorem State.acceptIdle_setAdvance (s : State) (a : AdvanceStage) (r : Request) :
    (s.setAdvance a).acceptIdle r = (s.acceptIdle r).setAdvance a := by
  unfold State.acceptIdle
  rw [apply_ite fun t => State.setAdvance t a, ← State.arbitrate_setAdvance]
  rfl

theorem State.acceptWaiting_setAdvance (s : State) (a : AdvanceStage) (r : Request) :
    (s.setAdvance a).acceptWaiting r = (s.acceptWaiting r).setAdvance a := by
  have hentry : (s.setAdvance a).entryFor r.fader = s.entryFor r.fader := rfl
  unfold State.acceptWaiting
  rw [hentry]
  cases s.entryFor r.fader with
  | none => rfl
  | some e =>
    dsimp only
    rw [← State.arbitrate_setAdvance]
    rfl

theorem State.acceptDriven_setAdvance (s : State) (a : AdvanceStage) (r : Request) :
    (s.setAdvance a).acceptDriven r = (s.acceptDriven r).setAdvance a := by
  have hslot : (s.setAdvance a).slotFor r.fader = s.slotFor r.fader := rfl
  unfold State.acceptDriven
  rw [hslot]
  cases s.slotFor r.fader with
  | none => rfl
  | some p => rfl

theorem State.acceptHoming_setAdvance (s : State) (a : AdvanceStage) (r : Request) :
    (s.setAdvance a).acceptHoming r = (s.acceptHoming r).setAdvance a := by
  have hslot : (s.setAdvance a).slotFor r.fader = s.slotFor r.fader := rfl
  unfold State.acceptHoming
  rw [hslot]
  cases s.slotFor r.fader with
  | none => rfl
  | some p => rfl

theorem State.acceptMotion_setAdvance (s : State) (a : AdvanceStage) (r : Request) :
    (s.setAdvance a).acceptMotion r = (s.acceptMotion r).setAdvance a := by
  have hfader : (s.setAdvance a).fader r.fader = s.fader r.fader := rfl
  unfold State.acceptMotion
  rw [hfader]
  cases (s.fader r.fader).motion with
  | idle => exact s.acceptIdle_setAdvance a r
  | waiting => exact s.acceptWaiting_setAdvance a r
  | moving | holding => exact s.acceptDriven_setAdvance a r
  | homing => exact s.acceptHoming_setAdvance a r
  | absent | unhomed | faulted => rfl

theorem State.acceptHeld_setAdvance (s : State) (a : AdvanceStage) (r : Request) (c : Conversion) :
    (s.setAdvance a).acceptHeld r c = (s.acceptHeld r c).setAdvance a := by
  have hfader : (s.setAdvance a).fader r.fader = s.fader r.fader := rfl
  unfold State.acceptHeld
  rw [hfader]
  cases (s.fader r.fader).mode with
  | manual | follow => rfl
  | latch =>
    dsimp only
    rw [apply_ite fun t => State.setAdvance t a]
    rfl

/-- The stage of the advance is nothing to a target request. -/
theorem State.accept_setAdvance (s : State) (a : AdvanceStage) (r : Request) :
    (s.setAdvance a).accept r = (s.accept r).setAdvance a := by
  unfold State.accept
  dsimp only
  rw [apply_ite fun t => State.setAdvance t a, apply_ite fun t => State.setAdvance t a,
    apply_ite fun t => State.setAdvance t a, ← State.acceptHeld_setAdvance, ← State.acceptMotion_setAdvance]
  rfl

/-- Nor is it anything to the judgement of a cue (R98). -/
theorem State.fireCue_setAdvance (s : State) (a : AdvanceStage) (c : Cue) (now : BitVec 32) :
    (s.setAdvance a).fireCue c now = (s.fireCue c now).setAdvance a := by
  unfold State.fireCue
  dsimp only
  rw [apply_ite fun t => State.setAdvance t a, apply_ite fun t => State.setAdvance t a,
    apply_ite fun t => State.setAdvance t a, ← State.accept_setAdvance, apply_ite fun t => State.setAdvance t a]
  rfl

end Sys2Proof.Machine
end

section
/-! The firing of cues (R97 to R100): the judgement of one cue, the cues of an advance, and what CUE_FIRING takes of them. Tools
of O39. -/

namespace Sys2Proof.Machine

/-! ### The guard of a cue (R99) -/

theorem State.guardTrue_eq (s : State) (c : Cue) : s.guardTrue c.guard c.group = s.guardHolds c := by
  unfold State.guardTrue State.guardHolds State.members Fader.inGroup Fader.held
  cases c.guard with
  | always => rfl
  | noneTouched => simp [List.any_filter, List.not_any_eq_all_not]
  | anyTouched => simp [List.any_filter]
  | allTouched => rw [Bool.eq_iff_iff]; simp [List.all_filter]

/-- What a guard mode asks of the members of a group (R99). -/
def State.GuardMet (s : State) (mode : GuardMode) (g : BitVec 3) : Prop :=
  match mode with
  | .always => True
  | .noneTouched => ∀ f, (s.fader f).groups.getLsbD g.toNat = true → ¬(s.fader f).touch ≠ .untouched
  | .anyTouched => ∃ f, (s.fader f).groups.getLsbD g.toNat = true ∧ (s.fader f).touch ≠ .untouched
  | .allTouched => (∃ f, (s.fader f).groups.getLsbD g.toNat = true) ∧
      ∀ f, (s.fader f).groups.getLsbD g.toNat = true → (s.fader f).touch ≠ .untouched

theorem State.guardTrue_iff (s : State) (mode : GuardMode) (g : BitVec 3) :
    s.guardTrue mode g = true ↔ s.GuardMet mode g := by
  have hmem : ∀ f, f ∈ s.members g ↔ (s.fader f).groups.getLsbD g.toNat = true := fun f => by
    simp [State.members, Fader.inGroup]
  cases mode with
  | always => simp [State.guardTrue, State.GuardMet]
  | noneTouched => simp [State.guardTrue, State.GuardMet, hmem, ← Fader.held_iff]
  | anyTouched => simp [State.guardTrue, State.GuardMet, hmem, ← Fader.held_iff]
  | allTouched =>
    simp [State.guardTrue, State.GuardMet, hmem, ← Fader.held_iff, List.eq_nil_iff_forall_not_mem]

theorem State.guardMet_congr {s t : State} (h : t.faders = s.faders) : t.GuardMet = s.GuardMet := by
  unfold State.GuardMet
  simp only [State.fader, h]

/-! ### The judgement of a cue (R98, R100) -/

theorem State.fireCue_dropped {s : State} {c : Cue} {now : BitVec 32} (h : s.cues.lateLimit < lateness c.due now) :
    s.fireCue c now = (s.complete c.fader .dropped .none .cue c.tag ⟨true, false⟩).raise .cueException :=
  if_pos h

theorem State.fireCue_latched {s : State} {c : Cue} {now : BitVec 32} (hlate : lateness c.due now ≤ s.cues.lateLimit)
    (h : (s.fader c.fader).latched = true) : s.fireCue c now =
      (s.complete c.fader .skipped .latched .cue c.tag ⟨decide (1 ≤ lateness c.due now), false⟩).raise .cueException :=
  (if_neg (Nat.not_lt.mpr hlate)).trans (if_pos h)

theorem State.fireCue_unguarded {s : State} {c : Cue} {now : BitVec 32} (hlate : lateness c.due now ≤ s.cues.lateLimit)
    (hlatch : (s.fader c.fader).latched = false) (h : ¬s.guardTrue c.guard c.group = true) : s.fireCue c now =
      (s.complete c.fader .skipped .guard .cue c.tag ⟨decide (1 ≤ lateness c.due now), false⟩).raise .cueException := by
  have hnot : (!s.guardTrue c.guard c.group) = true := by simpa using h
  exact (if_neg (Nat.not_lt.mpr hlate)).trans ((if_neg (by simp [hlatch])).trans (if_pos hnot))

/-- A cue that is neither Dropped nor Skipped issues its request, marked late from a lateness of 1 (R98). -/
theorem State.fireCue_issued {s : State} {c : Cue} {now : BitVec 32} (hlate : lateness c.due now ≤ s.cues.lateLimit)
    (hlatch : (s.fader c.fader).latched = false) (h : s.guardTrue c.guard c.group = true) : s.fireCue c now =
      (if 1 ≤ lateness c.due now then s.raise .cueException else s).accept
        (c.request (decide (1 ≤ lateness c.due now))) := by
  have hnot : ¬(!s.guardTrue c.guard c.group) = true := by simpa using h
  exact (if_neg (Nat.not_lt.mpr hlate)).trans ((if_neg (by simp [hlatch])).trans (if_neg hnot))

/-- On time it is issued without the late mark, and nothing is raised (R98, R100). -/
theorem State.fireCue_onTime {s : State} {c : Cue} {now : BitVec 32} (hlate : lateness c.due now ≤ s.cues.lateLimit)
    (hlatch : (s.fader c.fader).latched = false) (h : s.guardTrue c.guard c.group = true) (hzero : lateness c.due now = 0) :
    s.fireCue c now = s.accept (c.request false) := by
  rw [State.fireCue_issued hlate hlatch h, hzero]
  rfl

/-- From a lateness of 1 it is issued with the late mark, and CUE_EXCEPTION is raised (R98, R100). -/
theorem State.fireCue_late {s : State} {c : Cue} {now : BitVec 32} (hlate : lateness c.due now ≤ s.cues.lateLimit)
    (hlatch : (s.fader c.fader).latched = false) (h : s.guardTrue c.guard c.group = true) (hpos : 1 ≤ lateness c.due now) :
    s.fireCue c now = (s.raise .cueException).accept (c.request true) := by
  rw [State.fireCue_issued hlate hlatch h, if_pos hpos, decide_eq_true hpos]

/-- The model's judgement of a cue is the rules' (R98, R99, R100). -/
theorem State.fireCue_eq (s : State) (c : Cue) (now : BitVec 32) : s.fireCue c now = s.cueJudged c now := by
  unfold State.cueJudged
  dsimp only
  split
  · next hlate =>
    have hmark : decide (1 ≤ lateness c.due now) = true := decide_eq_true (by omega)
    rw [State.fireCue_dropped hlate, hmark]
    rfl
  · next hlate =>
    have hle := Nat.not_lt.mp hlate
    split
    · next hlatch => exact State.fireCue_latched hle hlatch
    · next hlatch =>
      have hfree : (s.fader c.fader).latched = false := by simpa using hlatch
      split
      · next hguard =>
        exact State.fireCue_unguarded hle hfree (by rw [State.guardTrue_eq]; simpa using hguard)
      · next hguard =>
        have hmet : s.guardTrue c.guard c.group = true := by rw [State.guardTrue_eq]; simpa using hguard
        by_cases hzero : lateness c.due now = 0
        · rw [State.fireCue_onTime hle hfree hmet hzero, hzero]
          rfl
        · have hpos : 1 ≤ lateness c.due now := Nat.one_le_iff_ne_zero.mpr hzero
          rw [State.fireCue_late hle hfree hmet hpos, if_neg hzero, decide_eq_true hpos]
          rfl

/-! ### The cues of an advance (R87, R97) -/

theorem State.fireCues_eq (s : State) (l : List Cue) : s.fireCues l = s.cuesJudged l := by
  simp only [State.fireCues, State.fireFrom, State.fireCue_eq]
  rfl

theorem State.dueCues_eq (s : State) : s.dueCues = s.judgedAt := by
  unfold State.dueCues State.judgedAt
  cases s.queue.run <;> rfl

theorem State.judgedAt_running {s : State} (h : s.judgedAt ≠ []) :
    s.judgedAt = s.cues.cues.filter fun c => isDue c.due s.cues.surface := by
  unfold State.judgedAt at h ⊢
  split
  · rfl
  · next hrun => exact absurd (if_neg hrun) h

/-- With its members of one kind erased, a list is its other members. -/
theorem foldl_erase_filter {α : Type} [DecidableEq α] (p : α → Bool) (l : List α) :
    (l.filter p).foldl List.erase l = l.filter fun a => !p a := by
  rw [← List.diff_eq_foldl]
  induction l with
  | nil => rfl
  | cons a l ih =>
    cases hp : p a with
    | true => simp [hp, ih]
    | false =>
      have hnot : a ∉ l.filter p := by simp [hp]
      rw [List.filter_cons_of_neg (by simp [hp]), List.cons_diff_of_not_mem hnot, ih]
      simp [hp]

/-- The judgement of some cues takes them from the list, and leaves surface time as it is (R97). -/
theorem State.cuesJudged_cues (s : State) (l : List Cue) :
    (s.cuesJudged l).cues = { s.cues with cues := l.foldl List.erase s.cues.cues } := by
  rw [← State.fireCues_eq]
  exact (s.fireCues_frame l).cues

/-- None is left due when all are judged (R97). -/
theorem State.cuesJudged_left {s : State} (h : s.judgedAt ≠ []) :
    (s.cuesJudged s.judgedAt).cues.cues = s.cues.cues.filter fun d => !isDue d.due s.cues.surface := by
  rw [State.cuesJudged_cues, State.judgedAt_running h]
  exact foldl_erase_filter ..

theorem State.cuesJudged_early (s : State) (l : List Cue) : (s.cuesJudged l).early = s.early := by
  rw [← State.fireCues_eq]
  exact (s.fireCues_frame l).early

/-! ### The advance reached -/

theorem State.surfaceReached_coming {s : State} (h : s.early.advance = .coming) : s.surfaceReached = s.tickSurface :=
  if_pos h

theorem State.surfaceReached_begun {s : State} (h : s.early.advance ≠ .coming) : s.surfaceReached = s :=
  if_neg h

/-! Surface time and the order of the cue list are all that it changes (R87, R90). -/

@[simp] theorem State.surfaceReached_bus (s : State) : s.surfaceReached.bus = s.bus := by
  unfold State.surfaceReached; split <;> rfl
@[simp] theorem State.surfaceReached_faders (s : State) : s.surfaceReached.faders = s.faders := by
  unfold State.surfaceReached; split <;> rfl
@[simp] theorem State.surfaceReached_completions (s : State) : s.surfaceReached.completions = s.completions := by
  unfold State.surfaceReached; split <;> rfl
@[simp] theorem State.surfaceReached_early (s : State) : s.surfaceReached.early = s.early := by
  unfold State.surfaceReached; split <;> rfl
@[simp] theorem State.surfaceReached_pending (s : State) : s.surfaceReached.pending = s.pending := by
  unfold State.surfaceReached; split <;> rfl
@[simp] theorem State.surfaceReached_lateLimit (s : State) : s.surfaceReached.cues.lateLimit = s.cues.lateLimit := by
  unfold State.surfaceReached; split <;> rfl

/-! ### What CUE_FIRING takes (R97, R99) -/

/-- With no CUE_FIRING to follow, the cues of the advance are judged whole. -/
theorem State.fireStage_whole {s : State} (h : ¬firingFollows s.pending = true) :
    s.fireStage = (s.cuesJudged s.judgedAt).setAdvance .taken := by
  rw [State.fireStage, if_neg h, State.fireCues_eq, State.dueCues_eq]

/-- Where one CUE_FIRING follows, or one cue is left, the first is judged alone. -/
theorem State.fireStage_first {s : State} {c : Cue} {others : List Cue} (hdue : s.judgedAt = c :: others)
    (h : firingFollows s.pending = true ∨ others = []) :
    s.fireStage = (s.fireFrom s.cues.surface c).setAdvance (if others = [] then .taken else .firing) := by
  rw [State.fireStage, State.dueCues_eq, hdue]
  by_cases hfollows : firingFollows s.pending = true
  · rw [if_pos hfollows]
    cases others with
    | nil => rfl
    | cons d rest =>
      rw [if_neg (by simp), if_neg (by simp)]
      rfl
  · obtain rfl := h.resolve_left hfollows
    rw [if_neg hfollows]
    rfl

theorem State.fireStage_none {s : State} (hdue : s.judgedAt = []) : s.fireStage = s.setAdvance .taken := by
  rw [State.fireStage, State.dueCues_eq, hdue]
  exact ite_self _

/-- CUE_FIRING goes on with an advance that is begun, and begins the coming one where cues are due at it. -/
theorem State.cueEvent_stage {s : State}
    (h : s.early.advance = .firing ∨ s.early.advance = .coming ∧ s.surfaceReached.judgedAt ≠ []) :
    s.cueEvent = s.surfaceReached.fireStage := by
  unfold State.cueEvent
  rcases h with h | ⟨h, hdue⟩
  · rw [State.surfaceReached_begun (by simp [h]), h]
  · rw [State.surfaceReached_coming h] at hdue ⊢
    rw [h, State.dueCues_eq]
    exact if_neg (by simpa using hdue)

/-- With the advance whole, or none due at the coming one, CUE_FIRING does nothing. -/
theorem State.cueEvent_idle {s : State}
    (h : s.early.advance = .taken ∨ s.early.advance = .coming ∧ s.surfaceReached.judgedAt = []) : s.cueEvent = s := by
  unfold State.cueEvent
  rcases h with h | ⟨h, hdue⟩
  · rw [h]
  · rw [State.surfaceReached_coming h] at hdue
    rw [h, State.dueCues_eq, hdue]
    rfl

theorem State.cueEvent_due {s : State} (h : s.early.advance ≠ .taken) (hdue : s.surfaceReached.judgedAt ≠ []) :
    s.cueEvent = s.surfaceReached.fireStage := by
  cases hadv : s.early.advance with
  | taken => exact absurd hadv h
  | firing => exact State.cueEvent_stage (.inl hadv)
  | coming => exact State.cueEvent_stage (.inr ⟨hadv, hdue⟩)

/-- With none left of an advance, CUE_FIRING ends it. -/
theorem State.cueEvent_ends {s : State} (h : s.early.advance = .firing) (hdue : s.surfaceReached.judgedAt = []) :
    s.cueEvent = s.setAdvance .taken := by
  rw [State.cueEvent_stage (.inl h), State.fireStage_none hdue, State.surfaceReached_begun (by simp [h])]

theorem State.answers_cueFiring {s : State} (hr : s.bus.inReset = false) : s.answers .cueFiring s.cueEvent :=
  congrArg State.done (State.unlessReset_live hr State.cueEvent)

end Sys2Proof.Machine
end

section
/-! No command but CUE_FIRING opens an advance, and a sense frame leaves an open one as it is (R87, R97, R99). Tools of O39. -/

namespace Sys2Proof.Machine

/-! ### What the bay links leave of the coming expiry -/

/-- From `s` to `t` the bus, what is taken of the coming expiry, and the commands that wait are as they were. -/
structure State.SameExpiry (s t : State) : Prop where
  bus : t.bus = s.bus
  early : t.early = s.early
  pending : t.pending = s.pending

theorem State.SameExpiry.refl (s : State) : s.SameExpiry s :=
  ⟨rfl, rfl, rfl⟩

theorem State.SameExpiry.trans {s t u : State} (h : s.SameExpiry t) (k : t.SameExpiry u) : s.SameExpiry u :=
  ⟨k.bus.trans h.bus, k.early.trans h.early, k.pending.trans h.pending⟩

theorem MotionFrame.sameExpiry {s t : State} (h : MotionFrame s t) : s.SameExpiry t :=
  ⟨h.bus, h.early, h.pending⟩

theorem State.modBay_sameExpiry (s : State) (b : BayId) (g : Bay → Bay) : s.SameExpiry (s.modBay b g) :=
  ⟨rfl, rfl, rfl⟩

theorem State.takeFitted_sameExpiry (s : State) (b : BayId) (bytes : List Byte) : s.SameExpiry (s.takeFitted b bytes) :=
  ((MotionFrame.foldl (fun t p => t.fitPosition b (s.bay b).fitted (senseFitted bytes) p)
    (fun _ _ => State.fitPosition_frame ..) (List.finRange 8) s).sameExpiry.trans (State.modBay_sameExpiry ..)).trans
    (MotionFrame.arbitrate _).sameExpiry

theorem State.takeSupply_sameExpiry (s : State) (b : BayId) (bytes : List Byte) : s.SameExpiry (s.takeSupply b bytes) := by
  have hbad := s.modBay_sameExpiry b fun x => { x with supplyFault := true, supplyGood := false }
  unfold State.takeSupply
  dsimp only
  split
  · exact State.modBay_sameExpiry ..
  · split
    · exact hbad
    · exact ((hbad.trans (MotionFrame.raise ..).sameExpiry).trans
        (MotionFrame.forFitted b (fun u p => u.endService (faderAt b p) .supplyFault) (fun _ _ => .endService ..)
          _).sameExpiry).trans (MotionFrame.arbitrate _).sameExpiry

theorem State.takeFrame_sameExpiry (s arrival : State) (b : BayId) (bytes : List Byte) :
    s.SameExpiry (s.takeFrame arrival b bytes) := by
  have hpositions : ∀ t : State, MotionFrame t _ := fun t =>
    .forFitted b (fun t p => t.takePosition (faderAt b p) (senseEntry bytes p).raw) (fun _ _ => .takePosition ..) t
  have htouch : ∀ t : State, MotionFrame t _ := fun t =>
    .forFitted b (fun t p => t.touchFrame (faderAt b p) (senseEntry bytes p).touch) (fun _ _ => .touchFrame ..) t
  have hserve : ∀ t : State, MotionFrame t _ := fun t =>
    .forFitted b (fun t p => t.serveFader (faderAt b p) (arrival.slotFor (faderAt b p)).isSome)
      (fun _ _ => .serveFader ..) t
  have hmoved : ∀ t : State, MotionFrame t _ := fun t =>
    .forFitted b (fun t p => t.movedTest (faderAt b p)
      ((arrival.slotFor (faderAt b p)).isSome || (arrival.fader (faderAt b p)).motion == .absent))
      (fun _ _ => .movedTest ..) t
  exact (((s.modBay_sameExpiry b _).trans (State.takeFitted_sameExpiry ..)).trans (State.takeSupply_sameExpiry ..)).trans
    ((((hpositions _).trans (htouch _)).trans (hserve _)).trans (hmoved _)).sameExpiry

theorem State.joinBay_sameExpiry (s : State) (b : BayId) (bytes : List Byte) : s.SameExpiry (s.joinBay b bytes) :=
  ((s.modBay_sameExpiry b _).trans
    (MotionFrame.forFitted b (fun u p => u.enterFader (faderAt b p)) (fun _ _ => .enterFader ..) _).sameExpiry).trans
    (MotionFrame.raise ..).sameExpiry

theorem State.receiveFrame_sameExpiry (s : State) (b : BayId) (bytes : List Byte) : s.SameExpiry (s.receiveFrame b bytes) := by
  have htaken : ∀ t : State, t.SameExpiry (t.takeGoodFrame b bytes) := by
    intro t
    unfold State.takeGoodFrame
    dsimp only
    split
    · exact State.modBay_sameExpiry ..
    · exact State.modBay_sameExpiry ..
    · split
      · exact (State.joinBay_sameExpiry ..).trans (State.takeFrame_sameExpiry ..)
      · exact State.modBay_sameExpiry ..
    · exact State.takeFrame_sameExpiry ..
  unfold State.receiveFrame
  split
  · exact (State.modBay_sameExpiry ..).trans (htaken _)
  · exact .refl s

theorem State.windowEvent_sameExpiry (s : State) (b : BayId) : s.SameExpiry (s.windowEvent b) := by
  have hlost : ∀ t : State, t.SameExpiry (t.loseBay b) := fun t =>
    (((MotionFrame.forFitted b (fun u p => u.loseFader (faderAt b p)) (fun _ _ => .loseFader ..) t).sameExpiry.trans
      (State.modBay_sameExpiry ..)).trans (MotionFrame.raise ..).sameExpiry).trans (MotionFrame.arbitrate _).sameExpiry
  have hmissed : ∀ t : State, t.SameExpiry (t.missFrame b) := by
    intro t
    have hzero : t.SameExpiry (t.zeroDrives b) := (MotionFrame.mapSlots ..).sameExpiry
    unfold State.missFrame
    dsimp only
    split
    · exact hzero
    · exact hzero
    · exact hzero.trans (State.modBay_sameExpiry ..)
    · split
      · exact hzero.trans (hlost _)
      · exact hzero.trans (State.modBay_sameExpiry ..)
  unfold State.windowEvent State.closeWindow
  dsimp only
  split
  · exact (State.modBay_sameExpiry ..).trans (hmissed _)
  · exact .refl s

end Sys2Proof.Machine
end

section
/-! No command but CUE_FIRING opens an advance (R87, R97): what each command leaves of the stage of the advance. A tool of
O39. -/

namespace Sys2Proof.Machine

/-! ### Command words -/

theorem State.arm_early (s : State) : s.arm.early = s.early := by
  unfold State.arm
  dsimp only
  split
  · split
    · rfl
    · split
      · rfl
      · split <;> rfl
  · rfl

theorem State.commitRecall_early (s : State) (count ramp : Nat) : (s.commitRecall count ramp).early = s.early := by
  unfold State.commitRecall
  split
  · rfl
  · exact (MotionFrame.issueAll ..).early

theorem State.undoRecall_early (s : State) : s.undoRecall.early = s.early := by
  unfold State.undoRecall
  split
  · rfl
  · exact (MotionFrame.issueAll ..).early

theorem State.stopCommand_early (s : State) : s.stopCommand.early = s.early := by
  unfold State.stopCommand
  split
  · rfl
  · exact (MotionFrame.stopMotion _).early

theorem State.restartCommand_early (s : State) : s.restartCommand.early = s.early := by
  simp only [State.restartCommand, State.mapFaders]

theorem State.homeCommand_early (s : State) (f : FaderId) : (s.homeCommand f).early = s.early := by
  rcases s.homeCommand_frame f with h | h
  · rw [h]; rfl
  · exact h.early

theorem State.commitTaper_early (s : State) : s.commitTaper.early = s.early := by
  unfold State.commitTaper
  split <;> rfl

theorem State.commitScale_early (s : State) : s.commitScale.early = s.early := by
  rw [State.commitScale_eq]
  split <;> rfl

theorem State.acknowledge_early (s : State) (n : Nat) : (s.acknowledge n).early = s.early := by
  unfold State.acknowledge
  split
  · rfl
  · split <;> rfl

/-- A command word's command takes nothing of the coming expiry. -/
theorem State.takeCommand_early (s : State) (cw : CommandWord) (code : Byte) (u : UpperLanes) :
    (s.takeCommand cw code u).early = s.early := by
  have hite : ∀ {p : Prop} [Decidable p] {a b : State}, a.early = s.early → b.early = s.early →
      (if p then a else b).early = s.early := fun ha hb => by split <;> assumption
  have href : (s.refuse .unknownCommand).early = s.early := rfl
  unfold State.takeCommand
  refine hite rfl ?_
  cases cw with
  | runControl => exact hite s.stopCommand_early (hite rfl (hite s.restartCommand_early href))
  | faderCommand f => exact hite (s.homeCommand_early f) (hite (MotionFrame.releaseCommand s f).early href)
  | cueArm => exact hite s.arm_early href
  | cueCancel => exact hite rfl href
  | recallCommit => exact hite (s.commitRecall_early ..) (hite s.undoRecall_early href)
  | taperCommit => exact hite s.commitTaper_early href
  | scaleCommit => exact hite s.commitScale_early href
  | acknowledge => exact s.acknowledge_early _

/-! ### Writes and reads on the bus -/

theorem State.onBus_early {s : State} {w : ImageWord} {l : Lanes} {take : State → State} (h : (take s).early = s.early) :
    (s.onBus w l take).early = s.early := by
  unfold State.onBus
  split
  · rfl
  · exact h

theorem State.pulse_early {s : State} {cw : CommandWord} {code : Byte} {u : UpperLanes} {take : State → State}
    (h : s.takeCommand cw code u = take s) : (s.pulse cw code u take).early = s.early :=
  State.onBus_early (show (take s).early = s.early from h ▸ s.takeCommand_early cw code u)

theorem State.takeControlWord_early (s : State) (f : FaderId) (v : Word) : (s.takeControlWord f v).early = s.early :=
  (MotionFrame.takeControl s f _).early

theorem State.writeTarget_early (s : State) (f : FaderId) (l : Lanes) : (s.writeTarget f l).early = s.early :=
  State.onBus_early (MotionFrame.accept s _).early

theorem State.writeControl_early (s : State) (f : FaderId) (l : Lanes) : (s.writeControl f l).early = s.early :=
  State.onBus_early (s.takeControlWord_early ..)

theorem State.writeAlias_early (s : State) (k : AliasKind) (f : FaderId) (l : Lanes) :
    (s.writeAlias k f l).early = s.early :=
  State.onBus_early (s.takeControlWord_early ..)

theorem State.intake_early (s : State) (m : MeterId) (x : Int) : (s.intake m x).early = s.early := by
  unfold State.intake
  dsimp only
  split <;> rfl

theorem State.writeIntake_early (s : State) (m : MeterId) (l : Lanes) : (s.writeIntake m l).early = s.early :=
  State.onBus_early (s.intake_early ..)

theorem State.writeSurface_early (s : State) (l : Lanes) : (s.writeSurface l).early = s.early :=
  State.onBus_early rfl

theorem State.writeSlotLimit_early (s : State) (l : Lanes) : (s.writeSlotLimit l).early = s.early :=
  State.onBus_early (MotionFrame.arbitrate _).early

theorem State.writeQuiet_early (s : State) (l : Lanes) : (s.writeQuiet l).early = s.early :=
  State.onBus_early rfl

theorem State.takeSetup_early (s : State) (w : SetupWord) (v : Word) : (s.takeSetup w v).early = s.early := by
  cases w <;> rfl

theorem State.writeSetup_early (s : State) (w : SetupWord) (l : Lanes) : (s.writeSetup w l).early = s.early :=
  State.onBus_early (s.takeSetup_early ..)

theorem State.writeStaging_early (s : State) (w : StagingWord) (l : Lanes) : (s.writeStaging w l).early = s.early :=
  State.onBus_early rfl

theorem State.writeAt_early (s : State) (addr : BitVec 32) (l : Lanes) : (s.writeAt addr l).early = s.early := by
  unfold State.writeAt
  split
  · next w _ =>
    cases w with
    | target f => exact s.writeTarget_early f l
    | control f => exact s.writeControl_early f l
    | controlAlias k f => exact s.writeAlias_early k f l
    | intake m => exact s.writeIntake_early m l
    | surfaceTime => exact s.writeSurface_early l
    | slotLimit => exact s.writeSlotLimit_early l
    | quiet => exact s.writeQuiet_early l
    | setup w => exact s.writeSetup_early w l
    | staging w => exact s.writeStaging_early w l
    | command cw => exact s.takeCommand_early cw _ _
    | _ => rfl
  · rfl

theorem State.readWord_early {s : State} {w : ImageWord} {act : State → State} (h : ∀ t : State, (act t).early = t.early) :
    (s.readWord w act).early = s.early := by
  unfold State.readWord
  dsimp only
  split
  · rfl
  · exact h _

theorem State.openHead_early (s : State) : s.openHead.early = s.early := by
  unfold State.openHead
  split <;> rfl

theorem State.takeHead_early (s : State) : s.takeHead.early = s.early := by
  unfold State.takeHead
  split
  · rfl
  · split <;> rfl

/-! ### Events -/

/-- A grant or a pre-emption that may be none takes nothing of the coming expiry. -/
theorem State.getD_early {s : State} {o : Option State} (h : ∀ t, o = some t → MotionFrame s t) :
    (o.getD s).early = s.early := by
  cases o with
  | none => rfl
  | some t => exact (h t rfl).early

theorem State.grantStep_early (s : State) : (s.grantStep.getD s).early = s.early :=
  State.getD_early fun _ h => by
    obtain ⟨_, _, _, -, -, -, -, rfl⟩ := MotionFrame.grantStep_inv h
    exact .grantTo ..

theorem State.preemptStep_early (s : State) : (s.preemptStep.getD s).early = s.early :=
  State.getD_early fun _ h => by
    obtain ⟨_, _, _, _, -, -, -, -, -, rfl⟩ := MotionFrame.preemptStep_inv h
    exact (MotionFrame.endHold ..).trans (.grantTo ..)

theorem State.slotEvent_advance (s : State) (i : SlotId) (due : Slot → Bool) :
    (s.slotEvent i due).early.advance = s.early.advance := by
  rcases MotionFrame.slotEvent s i due with h | h
  · rw [h]
  · rw [h.early]; rfl

theorem State.meterEvent_advance (s : State) (m : MeterId) : (s.meterEvent m).early.advance = s.early.advance := by
  unfold State.meterEvent State.meterExpiry
  dsimp only
  split
  · split <;> rfl
  · rfl

theorem State.quietEvent_advance (s : State) : s.quietEvent.early.advance = s.early.advance := by
  unfold State.quietEvent
  split <;> rfl

theorem State.unlessReset_advance {s : State} {act : State → State} (h : (act s).early.advance = s.early.advance) :
    (s.unlessReset act).early.advance = s.early.advance := by
  unfold State.unlessReset
  split
  · rfl
  · exact h

/-- A whole expiry begins the next one. -/
theorem State.unlessReset_expire_advance (s : State) : (s.unlessReset State.expire).early.advance = s.early.advance ∨
    (s.unlessReset State.expire).early.advance = .coming := by
  unfold State.unlessReset
  split
  · exact .inl rfl
  · right
    unfold State.expire
    exact congrArg EarlyShare.advance (State.endExpiry_early _)

/-! ### Every command -/

/-- After its command the part is at the stage of the advance that the command's block leaves. -/
theorem State.advance_of_done {s t u : State} (h : u.done = .next t) (k : u.early.advance = s.early.advance) :
    t.early.advance = s.early.advance := by
  cases h; exact k

/-- No command but CUE_FIRING takes anything of an advance: it leaves the stage as it is, or begins the next expiry. -/
theorem exec_advance {c : Instr} {s t : State} (h : exec c s = .next t) (hc : c ≠ .cueFiring) :
    t.early.advance = s.early.advance ∨ t.early.advance = .coming := by
  have hbus : ∀ u : State, u.done = .next t → u.early = s.early →
      t.early.advance = s.early.advance ∨ t.early.advance = .coming := fun u hu he =>
    .inl (State.advance_of_done hu (congrArg EarlyShare.advance he))
  have hevent : ∀ act : State → State, (s.unlessReset act).done = .next t → (act s).early.advance = s.early.advance →
      t.early.advance = s.early.advance ∨ t.early.advance = .coming := fun act hu ha =>
    .inl (State.advance_of_done hu (State.unlessReset_advance ha))
  cases c with
  | cueFiring => exact absurd rfl hc
  | reset => cases h; exact .inr rfl
  | frameExpiry =>
    cases h
    exact s.unlessReset_expire_advance
  | resetRelease straps =>
    refine hbus _ h ?_
    unfold State.releaseReset
    split <;> rfl
  | intakeTimeout m => exact hevent _ h (s.meterEvent_advance m)
  | moveTimeout i | parkTimeout i | homeLimitExceeded i | holdExpiry i => exact hevent _ h (s.slotEvent_advance i _)
  | releasingEnd f => exact hevent _ h (congrArg _ (MotionFrame.guardEvent s f).early)
  | quietIntervalEnd => exact hevent _ h s.quietEvent_advance
  | missedFrame b => exact hevent _ h (congrArg _ (s.windowEvent_sameExpiry b).early)
  | senseFrame b bytes => exact hevent _ h (congrArg _ (s.receiveFrame_sameExpiry b bytes).early)
  | slotGrant => exact hevent _ h (congrArg _ s.grantStep_early)
  | preEmption => exact hevent _ h (congrArg _ s.preemptStep_early)
  | targetWrite f w => exact hbus _ h (s.writeTarget_early f w)
  | controlWrite f w => exact hbus _ h (s.writeControl_early f w)
  | setAlias f w => exact hbus _ h (s.writeAlias_early .set f w)
  | clearAlias f w => exact hbus _ h (s.writeAlias_early .clear f w)
  | toggleAlias f w => exact hbus _ h (s.writeAlias_early .toggle f w)
  | levelIntake m w => exact hbus _ h (s.writeIntake_early m w)
  | surfaceTimeSet w => exact hbus _ h (s.writeSurface_early w)
  | slotLimitWrite w => exact hbus _ h (s.writeSlotLimit_early w)
  | quietWrite w => exact hbus _ h (s.writeQuiet_early w)
  | setupWrite sw w => exact hbus _ h (s.writeSetup_early sw w)
  | stagingWrite st w => exact hbus _ h (s.writeStaging_early st w)
  | wordWrite addr w => exact hbus _ h (s.writeAt_early addr w)
  | stop u | resume u | restart u | home f u | release f u | cueArm u | cueCancel u | commit u | undo u | taperCommit u
  | scaleCommit u | unknownCommand cw code u => exact hbus _ h (State.pulse_early rfl)
  | acknowledge n u => exact hbus _ h (State.pulse_early (s.takeCommand_acknowledge n u))
  | presentGainRead f => exact hbus _ h (State.readWord_early fun _ => rfl)
  | portARead => exact hbus _ h (State.readWord_early State.openHead_early)
  | portBRead => exact hbus _ h (State.readWord_early State.takeHead_early)
  | movedWordRead half => exact hbus _ h (State.readWord_early fun t => t.mapFaders_early _)
  | readout2Read m => exact hbus _ h (State.readWord_early fun _ => rfl)

end Sys2Proof.Machine
end

section
/-! CUE_FIRING (R87, R97 to R100): the advance that a step leaves open, and O39. -/

namespace Sys2Proof.Machine

/-! ### An open advance is left to sense frames and a CUE_FIRING only (R99) -/

theorem State.fireStage_frame (s : State) : s.fireStage.bus = s.bus ∧ s.fireStage.pending = s.pending := by
  unfold State.fireStage
  dsimp only
  split <;> exact ⟨(State.fireCues_frame ..).bus, (State.fireCues_frame ..).pending⟩

theorem State.fireStage_opens {s : State} (h : s.fireStage.early.advance = .firing) : firingFollows s.pending = true := by
  by_contra hnot
  rw [State.fireStage_whole hnot] at h
  cases h

/-- CUE_FIRING leaves an advance open only where another CUE_FIRING follows. -/
theorem State.cueEvent_opens {s : State} (h : s.cueEvent.early.advance = .firing) :
    s.cueEvent.bus = s.bus ∧ s.cueEvent.pending = s.pending ∧ firingFollows s.pending = true := by
  have hopens : s.cueEvent = s.surfaceReached.fireStage →
      s.cueEvent.bus = s.bus ∧ s.cueEvent.pending = s.pending ∧ firingFollows s.pending = true := by
    intro hstage
    obtain ⟨hbus, hpending⟩ := s.surfaceReached.fireStage_frame
    rw [hstage] at h ⊢
    exact ⟨hbus.trans s.surfaceReached_bus, hpending.trans s.surfaceReached_pending,
      s.surfaceReached_pending ▸ State.fireStage_opens h⟩
  cases hadv : s.early.advance with
  | taken => rw [State.cueEvent_idle (.inl hadv), hadv] at h; cases h
  | firing => exact hopens (State.cueEvent_stage (.inl hadv))
  | coming =>
    by_cases hdue : s.surfaceReached.judgedAt = []
    · rw [State.cueEvent_idle (.inr ⟨hadv, hdue⟩), hadv] at h; cases h
    · exact hopens (State.cueEvent_stage (.inr ⟨hadv, hdue⟩))

theorem exec_cueFiring_advanceWhole {s t : State} (hs : s.early.advance = .firing → s.bus.inReset = false)
    (h : exec .cueFiring s = .next t) : t.advanceWhole := by
  intro hfiring
  cases hr : s.bus.inReset with
  | true =>
    have hidle : exec .cueFiring s = s.done := congrArg State.done (if_pos hr)
    cases hidle.symm.trans h
    exact absurd (hs hfiring) (by simp [hr])
  | false =>
    cases (State.answers_cueFiring hr).symm.trans h
    obtain ⟨hbus, hpending, hfollows⟩ := State.cueEvent_opens hfiring
    exact ⟨(congrArg BusPath.inReset hbus).trans hr, (firingFollows_iff _).mp (hpending ▸ hfollows)⟩

theorem exec_senseFrame_sameExpiry {s t : State} {b : BayId} {bytes : List Byte}
    (h : exec (.senseFrame b bytes) s = .next t) : s.SameExpiry t := by
  have hkeeps : s.SameExpiry (s.unlessReset fun u => u.receiveFrame b bytes) := by
    unfold State.unlessReset
    split
    · exact .refl s
    · exact s.receiveFrame_sameExpiry b bytes
  cases h
  exact ⟨hkeeps.bus, hkeeps.early, hkeeps.pending⟩

/-- A step keeps what may come between the cues of an advance (R87, R97, R99). -/
theorem step_advanceWhole {s t : State} (hs : s.advanceWhole) (h : step s = .next t) : t.advanceWhole := by
  unfold step at h
  split at h
  · cases h; exact hs
  · next c rest hpending =>
    by_cases hc : c = .cueFiring
    · subst hc
      exact exec_cueFiring_advanceWhole (s := { s with pending := rest }) (fun hf => (hs hf).1) h
    · intro hfiring
      have hopen : s.early.advance = .firing := by
        rcases exec_advance h hc with hkept | hcoming
        · exact hkept.symm.trans hfiring
        · rw [hfiring] at hcoming; cases hcoming
      obtain ⟨hreset, frames, tail, hqueue, hframes⟩ := hs hopen
      rw [hpending] at hqueue
      cases frames with
      | nil => exact absurd (List.cons.inj hqueue).1 hc
      | cons d frames =>
        obtain ⟨rfl, rfl⟩ := List.cons.inj hqueue
        obtain ⟨b, bytes, rfl⟩ := hframes _ List.mem_cons_self
        have hkept := exec_senseFrame_sameExpiry h
        exact ⟨(congrArg BusPath.inReset hkept.bus).trans hreset, frames, tail, hkept.pending,
          fun d hd => hframes d (List.mem_cons_of_mem _ hd)⟩

/-! ### The cues of one CUE_FIRING (R97, R98) -/

/-- With cues due and no CUE_FIRING to follow, all are judged and the advance is whole. -/
theorem State.cueEvent_whole {s : State} (hadv : s.early.advance ≠ .taken) (hdue : s.surfaceReached.judgedAt ≠ [])
    (hnot : ¬firingFollows s.pending = true) :
    s.cueEvent = (s.surfaceReached.cuesJudged s.surfaceReached.judgedAt).setAdvance .taken := by
  rw [State.cueEvent_due hadv hdue, State.fireStage_whole (by rwa [s.surfaceReached_pending])]

/-- Where one cue is judged, it has left the list. -/
theorem State.cueEvent_first {s : State} {c : Cue} {others before after : List Cue} (hadv : s.early.advance ≠ .taken)
    (hdue : s.surfaceReached.judgedAt = c :: others) (hnext : firingFollows s.pending = true ∨ others = [])
    (hlist : s.surfaceReached.cues.cues = before ++ c :: after) (hnew : c ∉ before) :
    s.cueEvent = State.fireCue
      (State.setAdvance { s.surfaceReached with cues := { s.surfaceReached.cues with cues := before ++ after } }
        (if others = [] then .taken else .firing)) c s.surfaceReached.cues.surface := by
  have herase : s.surfaceReached.cues.cues.erase c = before ++ after := by
    rw [hlist, List.erase_append_right _ hnew, List.erase_cons_head]
  rw [State.cueEvent_due hadv (by simp [hdue]), State.fireStage_first hdue (by rwa [s.surfaceReached_pending]),
    State.fireFrom, herase, State.fireCue_setAdvance]

/-- Settles O39: the cues of an advance judged whole or the first alone, what is done with none to judge, and what no step lets
come between them. -/
theorem cueFiringJudgesHead : Obligations.CueFiringJudgesHead := by
  unfold Obligations.CueFiringJudgesHead
  refine ⟨fun s hr => ?_, fun s t => step_advanceWhole⟩
  intro u now due follows stage
  have hanswer := State.answers_cueFiring hr
  have hfollows : firingFollows s.pending = true ↔ follows := firingFollows_iff s.pending
  have hstage : ∀ (v : State) (a : AdvanceStage), v.early = s.early → v.setAdvance a = stage v a := fun v a hv => by
    rw [State.setAdvance, hv]
  refine ⟨fun hadv hdue hnot => ⟨?_, ?_, State.cuesJudged_left hdue⟩, ?_, fun h => ?_, fun hadv hdue => ?_⟩
  · rwa [State.cueEvent_whole hadv hdue (mt hfollows.mp hnot),
      hstage _ _ ((State.cuesJudged_early ..).trans s.surfaceReached_early)] at hanswer
  · rw [State.cuesJudged_cues]
  · intro c others before after hadv hdue hnext hlist hnew late x inGroup held guarded t excepted ended
    have ht : State.setAdvance _ _ = t := hstage _ _ s.surfaceReached_early
    have hfirst : s.cueEvent = t.fireCue c now :=
      ht ▸ State.cueEvent_first hadv hdue (hnext.imp_left hfollows.mpr) hlist hnew
    rw [hfirst] at hanswer
    have hlimit : t.cues.lateLimit = s.cues.lateLimit := s.surfaceReached_lateLimit
    have hfaders : t.faders = s.faders := s.surfaceReached_faders
    have hcompletions : t.completions = s.completions := s.surfaceReached_completions
    clear_value t
    have hguard : t.guardTrue c.guard c.group = true ↔ guarded := by
      rw [State.guardTrue_iff, State.guardMet_congr hfaders]
      exact Iff.rfl
    have hfader : t.fader c.fader = x := by rw [State.fader, hfaders]; rfl
    have hended : ∀ o cause mark,
        (t.complete c.fader o cause .cue c.tag ⟨mark, false⟩).raise .cueException = ended o cause mark := by
      intro o cause mark
      rw [State.complete, hfader, hcompletions]
      rfl
    rw [← hlimit, ← hfader, ← hguard]
    refine ⟨fun h => ?_, fun h hlatch => ?_, fun h hlatch hg => ?_, fun h hlatch hg hzero => ?_,
      fun h hlatch hg hpos => ?_⟩
    · rwa [State.fireCue_dropped h, hended] at hanswer
    · rwa [State.fireCue_latched h hlatch, hended] at hanswer
    · rwa [State.fireCue_unguarded h hlatch hg, hended] at hanswer
    · rwa [State.fireCue_onTime h hlatch hg hzero] at hanswer
    · rwa [State.fireCue_late h hlatch hg hpos] at hanswer
  · rwa [State.cueEvent_idle h] at hanswer
  · rwa [State.cueEvent_ends hadv hdue] at hanswer

end Sys2Proof.Machine
end

section
/-! The recall commit and the undo of its history (R105 to R109, R111): O29. -/

namespace Sys2Proof.Machine

/-! ### The checks of a commit (R106) -/

/-- The fader numbers of the first staged pairs, as their words carry them (R104). -/
theorem Staging.pairList_faders (g : Staging) (n : Nat) :
    (g.pairList n).map StagedPair.fader = (g.pairs.toList.take n).map fun v => fieldNat v 16 8 := by
  rw [Staging.pairList, List.map_map]
  rfl

theorem State.commitRefusal_stopped {s : State} (h : s.queue.run = .stopped) (count : Nat) :
    s.commitRefusal count = some .stopped :=
  if_pos h

theorem State.commitRefusal_badCount {s : State} {count : Nat} (hrun : s.queue.run = .running)
    (h : count = 0 ∨ 48 < count) : s.commitRefusal count = some .recallBadCount := by
  have hmoving : s.queue.run ≠ .stopped := by simp [hrun]
  have hcount : count < 1 ∨ 48 < count := h.imp_left Nat.lt_one_iff.mpr
  exact (if_neg hmoving).trans (if_pos hcount)

/-- In Running and with a count of 1 to 48, the numbers of the listed faders decide: their range first, then duplicates
(R106). -/
theorem State.commitRefusal_counted {s : State} {count : Nat} {numbers : List Nat} (hrun : s.queue.run = .running)
    (hlow : 1 ≤ count) (hhigh : count ≤ 48) (hnumbers : (s.staging.pairList count).map StagedPair.fader = numbers) :
    s.commitRefusal count =
      if ∃ n ∈ numbers, 48 ≤ n then some .recallBadFader
      else if numbers.Nodup then none
      else some .recallDuplicate := by
  have hmoving : s.queue.run ≠ .stopped := by simp [hrun]
  have hcount : ¬(count < 1 ∨ 48 < count) := by omega
  subst hnumbers
  simp only [State.commitRefusal, if_neg hmoving, if_neg hcount]
  simp

theorem State.commitRecall_refused {s : State} {count : Nat} {r : RefusalReason} (h : s.commitRefusal count = some r)
    (ramp : Nat) : s.commitRecall count ramp = s.refuse r := by
  simp only [State.commitRecall, h]

theorem State.commitRecall_taken {s : State} {count : Nat} (h : s.commitRefusal count = none) (ramp : Nat) :
    s.commitRecall count ramp = s.takeCommit count (min ramp 5000) := by
  simp only [State.commitRecall, h]
  rfl

/-! ### The pairs of a commit as prior targets (R104, R109) -/

/-- A target as the pair that stages it. -/
def PriorTarget.pair (p : PriorTarget) : StagedPair :=
  ⟨p.fader.val, p.gain⟩

theorem PriorTarget.prior?_pair (p : PriorTarget) : p.pair.prior? = some p :=
  dif_pos p.fader.isLt

/-- Staged pairs read as fader and gain are the pairs of the targets that say the same. -/
theorem Staging.pairList_eq {g : Staging} {n : Nat} {listed : List PriorTarget}
    (h : listed.map (fun p => (p.fader.val, p.gain)) =
      (g.pairs.toList.take n).map fun v => (fieldNat v 16 8, Gain.ofCode (fieldInt v 0))) :
    g.pairList n = listed.map PriorTarget.pair := by
  have hpairs := congrArg (List.map fun q : Nat × Gain => StagedPair.mk q.1 q.2) h
  rw [List.map_map, List.map_map] at hpairs
  exact hpairs.symm

/-- No pair of a target is left out of the recall, and each names its target again. -/
theorem filterMap_prior?_pairs (listed : List PriorTarget) :
    (listed.map PriorTarget.pair).filterMap StagedPair.prior? = listed := by
  rw [List.filterMap_map, show StagedPair.prior? ∘ PriorTarget.pair = some from funext PriorTarget.prior?_pair,
    List.filterMap_some]

theorem lt_of_mem_pair_faders {listed : List PriorTarget} {n : Nat}
    (h : n ∈ (listed.map PriorTarget.pair).map StagedPair.fader) : n < 48 := by
  rw [List.map_map] at h
  obtain ⟨p, -, rfl⟩ := List.mem_map.mp h
  exact p.fader.isLt

/-! ### A commit and an undo that are taken (R107 to R109, R111) -/

/-- A commit over listed targets: number, entry of prior targets, and the requests in staging order (R107, R108, R109). -/
theorem State.takeCommit_eq {s : State} {count : Nat} {listed : List PriorTarget}
    (h : s.staging.pairList count = listed.map PriorTarget.pair) (ramp : Nat) :
    let number := nextRecall s.recalls.number
    let entry : HistoryEntry := ⟨number, ramp, listed.map fun p => ⟨p.fader, (s.fader p.fader).targetGain⟩⟩
    s.takeCommit count ramp =
      State.issueAll { s with recalls := ⟨number, (entry :: s.recalls.history).take 4⟩ } listed number ramp false := by
  simp only [State.takeCommit, h, filterMap_prior?_pairs]
  rfl

theorem State.commitRecall_frame (s : State) (count ramp : Nat) :
    (s.commitRecall count ramp).mem = s.mem ∧ (s.commitRecall count ramp).bus = s.bus := by
  unfold State.commitRecall
  split
  · exact ⟨rfl, rfl⟩
  · exact ⟨(MotionFrame.issueAll ..).mem, (MotionFrame.issueAll ..).bus⟩

theorem State.undoRecall_empty {s : State} (h : s.recalls.history = []) : s.undoRecall = s.refuse .historyEmpty := by
  simp only [State.undoRecall, h]

theorem State.undoRecall_top {s : State} {e : HistoryEntry} {rest : List HistoryEntry} (h : s.recalls.history = e :: rest) :
    s.undoRecall =
      State.issueAll { s with recalls := { s.recalls with history := rest } } e.priors e.number e.ramp true := by
  simp only [State.undoRecall, h]

theorem State.undoRecall_frame (s : State) : s.undoRecall.mem = s.mem ∧ s.undoRecall.bus = s.bus := by
  unfold State.undoRecall
  split
  · exact ⟨rfl, rfl⟩
  · exact ⟨(MotionFrame.issueAll ..).mem, (MotionFrame.issueAll ..).bus⟩

/-! ### The statement -/

/-- The ramp of a commit as its lanes give it, taken as 5000 where it is above (R105, R106). -/
theorem min_upperRamp (u : UpperLanes) :
    let written := (u.lane2.getD 0).toNat + 256 * (u.lane3.getD 0).toNat
    min (upperRamp u) 5000 = if 5000 < written then 5000 else written := by
  have h2 := (u.lane2.getD 0).isLt
  have h3 := (u.lane3.getD 0).isLt
  have hwritten : upperRamp u = (u.lane2.getD 0).toNat + 256 * (u.lane3.getD 0).toNat := by
    rw [upperRamp, upperTag_eq, BitVec.toNat_ofNat]
    omega
  rw [hwritten]
  dsimp only
  split <;> omega

theorem State.writes_commit {s : State} (hr : s.bus.inReset = false) (u : UpperLanes) :
    s.writes (.commit u) 0x04C (u.withCode 0xC1) (s.commitRecall (upperCount u) (upperRamp u)) :=
  have hframe := s.commitRecall_frame (upperCount u) (upperRamp u)
  State.writes_of_pulse (cw := .recallCommit) (take := fun t => t.commitRecall (upperCount u) (upperRamp u)) hr rfl
    hframe.1 (by rw [State.imageBase, hframe.2]; rfl)

theorem State.writes_undo {s : State} (hr : s.bus.inReset = false) (u : UpperLanes) :
    s.writes (.undo u) 0x04C (u.withCode 0xD0) s.undoRecall :=
  State.writes_of_pulse (cw := .recallCommit) (take := State.undoRecall) hr rfl s.undoRecall_frame.1 (by
    rw [State.imageBase, s.undoRecall_frame.2]; rfl)

/-- Settles O29: a commit by its checks in order and over its listed targets, and an undo by the top of the history. -/
theorem commitAndUndo : Obligations.CommitAndUndo := by
  unfold Obligations.CommitAndUndo
  constructor
  · intro u s hr l count written ramp staged numbers refused
    have hwrite : s.writes (.commit u) 0x04C l (s.commitRecall count (upperRamp u)) := State.writes_commit hr u
    have hrefused : ∀ r, s.commitRefusal count = some r → s.writes (.commit u) 0x04C l (refused r) := fun r h => by
      rwa [State.commitRecall_refused h] at hwrite
    refine ⟨fun h => hrefused _ (State.commitRefusal_stopped h _),
      fun hrun h => hrefused _ (State.commitRefusal_badCount hrun h), fun hrun hlow hhigh => ?_⟩
    have hcase := State.commitRefusal_counted hrun hlow hhigh (s.staging.pairList_faders count)
    refine ⟨fun hbad => hrefused _ (hcase.trans (if_pos hbad)), fun hgood hdup => ?_, fun listed hnodup hlisted => ?_⟩
    · have hnone : ¬∃ n ∈ numbers, 48 ≤ n := fun ⟨n, hn, hle⟩ => Nat.not_lt.mpr hle (hgood n hn)
      exact hrefused _ (hcase.trans ((if_neg hnone).trans (if_neg hdup)))
    · have hpairs := Staging.pairList_eq hlisted
      have hnone : ¬∃ n ∈ numbers, 48 ≤ n := fun ⟨n, hn, hle⟩ => by
        have hmem : n ∈ (s.staging.pairList count).map StagedPair.fader := s.staging.pairList_faders count ▸ hn
        exact Nat.not_lt.mpr hle (lt_of_mem_pair_faders (hpairs ▸ hmem))
      have htaken : s.commitRefusal count = none := hcase.trans ((if_neg hnone).trans (if_pos hnodup))
      rwa [State.commitRecall_taken htaken, State.takeCommit_eq hpairs, min_upperRamp] at hwrite
  · intro u s hr
    have hwrite := State.writes_undo hr u
    refine ⟨fun h => ?_, fun e rest h => ?_⟩
    · rwa [State.undoRecall_empty h] at hwrite
    · rwa [State.undoRecall_top h] at hwrite

end Sys2Proof.Machine
end

section
/-! The level intake of a meter (R115 to R118, R120): O18. -/

namespace Sys2Proof.Machine

/-! ### Rounding by sixteenths (R116, R117) -/

theorem ceilDiv_sixteen (n : Int) : n ≤ 16 * ceilDiv n 16 ∧ 16 * ceilDiv n 16 < n + 16 := by
  unfold ceilDiv
  omega

/-- At or above 0 the half is rounded up. -/
theorem roundHalfAway_sixteen_of_nonneg {n : Int} (h : 0 ≤ n) :
    -8 < 16 * roundHalfAway n 16 - n ∧ 16 * roundHalfAway n 16 - n ≤ 8 := by
  rw [roundHalfAway, if_pos h]
  omega

/-- At or below 0 the half is rounded down. -/
theorem roundHalfAway_sixteen_of_nonpos {n : Int} (h : n ≤ 0) :
    -8 ≤ 16 * roundHalfAway n 16 - n ∧ 16 * roundHalfAway n 16 - n < 8 := by
  unfold roundHalfAway
  split <;> omega

/-! ### The display level after an intake, by kind -/

theorem Meter.levelIntake_peak_keeps {m : Meter} {x : Int} (hk : m.setup.kind = .peak) (hx : x ≤ m.level) :
    (m.levelIntake x).level = m.level := by
  simp only [Meter.levelIntake, hk, if_neg (not_lt.mpr hx)]

theorem Meter.levelIntake_peak_rises {m : Meter} {x : Int} (hk : m.setup.kind = .peak) (hx : m.level < x) :
    (m.levelIntake x).level - m.level = ceilDiv ((x - m.level) * m.setup.attack) 16 := by
  simp only [Meter.levelIntake, hk, if_pos hx, add_sub_cancel_left]

theorem Meter.levelIntake_average {m : Meter} (hk : m.setup.kind = .average) (x : Int) :
    (m.levelIntake x).level - m.level = roundHalfAway ((x - m.level) * m.setup.attack) 16 := by
  simp only [Meter.levelIntake, hk, add_sub_cancel_left]

/-! ### The whole intake -/

theorem Meter.holdIntake_eq (m : Meter) (x : Int) :
    m.holdIntake x = { m with
      hold := if m.hold ≤ x then x else m.hold
      holdTimer := if m.hold ≤ x then m.setup.holdFrames else m.holdTimer } := by
  unfold Meter.holdIntake
  split <;> rfl

/-- The level update reads and changes nothing of the hold and of the stale flag. -/
theorem Meter.levelIntake_held (m : Meter) (x h : Int) (n : Nat) (b : Bool) :
    Meter.levelIntake { m with hold := h, holdTimer := n, stale := b } x =
      { m with hold := h, holdTimer := n, stale := b, level := (m.levelIntake x).level } := by
  unfold Meter.levelIntake
  dsimp only
  cases m.setup.kind with
  | peak => dsimp only; split <;> rfl
  | average => rfl

theorem Meter.intake_eq (m : Meter) (x : Int) :
    m.intake x = { m with
      level := (m.levelIntake x).level
      hold := if m.hold ≤ x then x else m.hold
      holdTimer := if m.hold ≤ x then m.setup.holdFrames else m.holdTimer
      lastIntake := x
      overRun := m.nextOverRun x
      overLatch := m.overLatch || m.setsOver x
      stale := false
      intakeTimer := 0 } := by
  simp only [Meter.intake, Meter.holdIntake_eq, Meter.leaveStale, Meter.levelIntake_held]
  rfl

/-- METER_OVER is pending after an intake where it was, or where the intake sets the over latch (R118). -/
theorem State.intake_eq (s : State) (m : MeterId) (x : Int) :
    s.intake m x = { s.setMeter m ((s.meter m).intake x) with attn := { s.attn with events :=
      { s.attn.events with meterOver := s.attn.events.meterOver || (s.meter m).setsOver x } } } := by
  have hset : (s.meter m).leaveStale.setsOver x = (s.meter m).setsOver x := rfl
  unfold State.intake
  dsimp only
  rw [hset]
  cases (s.meter m).setsOver x with
  | true => rw [Bool.or_true]; rfl
  | false => rw [Bool.or_false]; rfl

theorem takeLevel_eq (v : Word) :
    takeLevel v = if fieldInt v 0 < -6000 then -6000 else if 2000 < fieldInt v 0 then 2000 else fieldInt v 0 := by
  have hclamp : takeLevel v = max (-6000) (min 2000 (fieldInt v 0)) := rfl
  rw [hclamp]
  split_ifs <;> omega

theorem State.writes_intake {s : State} (hr : s.bus.inReset = false) (m : MeterId) (l : Lanes) {x : Int}
    (hx : takeLevel (l.merge (s.meter m).intakeWord) = x) :
    s.writes (.levelIntake m l) (0x2000 + 0x20 * m.val) (Lanes.full (putInt 0 16 x)) (s.intake m x) := by
  subst hx
  have hframe : ∀ x, (s.intake m x).mem = s.mem ∧ (s.intake m x).imageBase = s.imageBase := fun x => by
    rw [State.intake_eq]
    exact ⟨rfl, rfl⟩
  exact State.writes_of_rewrite (w := .intake m) (congrArg State.done (State.onBus_live hr ..)) (hframe _).1 (hframe _).2

/-- Settles O18: the level that the intake leaves is the witness, with the rounding of the meter's kind. -/
theorem levelIntakeTakesLevel : Obligations.LevelIntakeTakesLevel := by
  unfold Obligations.LevelIntakeTakesLevel
  intro m l s hr y z x run latches
  have hattack : (0 : Int) ≤ y.setup.attack := Int.natCast_nonneg _
  refine ⟨(y.levelIntake x).level, Meter.levelIntake_peak_keeps, fun hk hx => ?_, fun hk hx => ?_, fun hk hx => ?_, ?_⟩
  · rw [Meter.levelIntake_peak_rises hk hx]
    exact ceilDiv_sixteen _
  · rw [Meter.levelIntake_average hk]
    exact roundHalfAway_sixteen_of_nonneg (mul_nonneg (sub_nonneg.mpr hx) hattack)
  · rw [Meter.levelIntake_average hk]
    exact roundHalfAway_sixteen_of_nonpos (mul_nonpos_of_nonpos_of_nonneg (sub_nonpos.mpr hx.le) hattack)
  · have hwrite := State.writes_intake hr m l (x := x) (takeLevel_eq _)
    rw [State.intake_eq, Meter.intake_eq] at hwrite
    exact hwrite

end Sys2Proof.Machine
end

section
/-! What no action on faders and no bay link does to the meters: their records, what is taken of the coming expiry, and
METER_STALE stay as they are (R119, R131), whatever the state. Tools of O36. -/

namespace Sys2Proof.Machine

/-! ### Ends of service and the arbiter raise no event -/

@[simp] theorem State.leaveQueue_attn (s : State) (f : FaderId) (o : EndOutcome) : (s.leaveQueue f o).attn = s.attn := by
  unfold State.leaveQueue; split <;> rfl

@[simp] theorem State.endMove_attn (s : State) (i : SlotId) (sl : Slot) (o : EndOutcome) :
    (s.endMove i sl o).attn = s.attn := rfl

@[simp] theorem State.endHold_attn (s : State) (i : SlotId) (sl : Slot) : (s.endHold i sl).attn = s.attn := rfl

@[simp] theorem State.dropHoming_attn (s : State) (i : SlotId) (sl : Slot) : (s.dropHoming i sl).attn = s.attn := by
  unfold State.dropHoming; split <;> simp

@[simp] theorem State.endUse_attn (s : State) (i : SlotId) (sl : Slot) (o : EndOutcome) :
    (s.endUse i sl o).attn = s.attn := by
  unfold State.endUse
  split
  · rfl
  · rfl
  · simp [State.endHoming]

@[simp] theorem State.endService_attn (s : State) (f : FaderId) (o : EndOutcome) : (s.endService f o).attn = s.attn := by
  unfold State.endService
  split
  case h_1 => simp
  case h_2 | h_3 | h_4 => split <;> simp
  all_goals rfl

@[simp] theorem State.loseFader_attn (s : State) (f : FaderId) : (s.loseFader f).attn = s.attn := by
  simp [State.loseFader]

@[simp] theorem State.grantTo_attn (s : State) (i : SlotId) (e : Entry) : (s.grantTo i e).attn = s.attn := by
  unfold State.grantTo; split <;> rfl

theorem State.arbiterStep_attn {s t : State} (h : s.arbiterStep = some t) : t.attn = s.attn := by
  rcases MotionFrame.arbiterStep_inv h with h | ⟨-, h⟩
  · obtain ⟨e, rest, i, -, -, -, -, rfl⟩ := MotionFrame.grantStep_inv h
    simp
  · obtain ⟨e, rest, i, sl, -, -, -, -, -, rfl⟩ := MotionFrame.preemptStep_inv h
    simp

@[simp] theorem State.arbitrate_attn (s : State) : s.arbitrate.attn = s.attn := by
  unfold State.arbitrate
  induction s.queue.entries.length generalizing s with
  | zero => rfl
  | succ k ih =>
    unfold State.arbiterLoop
    split
    · rfl
    · next t h => exact (ih t).trans (State.arbiterStep_attn h)

/-! ### Requests raise CUE_EXCEPTION at most -/

@[simp] theorem State.acceptMotion_attn (s : State) (r : Request) : (s.acceptMotion r).attn = s.attn := by
  unfold State.acceptMotion
  split
  case h_1 => unfold State.acceptIdle; dsimp only; split <;> simp [State.takeOn]
  case h_2 => unfold State.acceptWaiting; split <;> simp [State.takeOn]
  case h_3 | h_4 => unfold State.acceptDriven; split <;> simp [State.takeOn]
  case h_5 => unfold State.acceptHoming; split <;> simp
  all_goals rfl

/-- Whether METER_STALE is pending (R119). -/
def State.stalePending (s : State) : Bool :=
  s.attn.events.meterStale

theorem State.stalePending_of_attn {s t : State} (h : t.attn = s.attn) : t.stalePending = s.stalePending := by
  rw [State.stalePending, State.stalePending, h]

theorem State.raise_stalePending (s : State) {e : EventSource} (h : e ≠ .meterStale) :
    (s.raise e).stalePending = s.stalePending :=
  EventFlags.get_set_ne s.attn.events true h

/-- From `s` to `t` the meters, what is taken of the coming expiry, and METER_STALE are as they were. -/
structure State.MetersRest (s t : State) : Prop where
  engine : t.engine = s.engine
  early : t.early = s.early
  stale : t.stalePending = s.stalePending

theorem State.MetersRest.refl (s : State) : s.MetersRest s :=
  ⟨rfl, rfl, rfl⟩

theorem State.MetersRest.trans {s t u : State} (h : s.MetersRest t) (k : t.MetersRest u) : s.MetersRest u :=
  ⟨k.engine.trans h.engine, k.early.trans h.early, k.stale.trans h.stale⟩

theorem State.MetersRest.foldl {α : Type} {act : State → α → State} (h : ∀ (t : State) a, t.MetersRest (act t a))
    (l : List α) (s : State) : s.MetersRest (l.foldl act s) := by
  induction l generalizing s with
  | nil => exact .refl s
  | cons a rest ih => exact (h s a).trans (ih _)

/-- An action on faders that raises no event. -/
theorem MotionFrame.metersRest {s t : State} (h : MotionFrame s t) (ha : t.attn = s.attn) : s.MetersRest t :=
  ⟨h.engine, h.early, State.stalePending_of_attn ha⟩

theorem State.raise_metersRest (s : State) {e : EventSource} (h : e ≠ .meterStale) : s.MetersRest (s.raise e) :=
  ⟨rfl, rfl, s.raise_stalePending h⟩

theorem State.modFader_metersRest (s : State) (f : FaderId) (g : Fader → Fader) : s.MetersRest (s.modFader f g) :=
  ⟨rfl, rfl, rfl⟩

theorem State.modBay_metersRest (s : State) (b : BayId) (g : Bay → Bay) : s.MetersRest (s.modBay b g) :=
  ⟨rfl, rfl, rfl⟩

theorem State.arbitrate_metersRest (s : State) : s.MetersRest s.arbitrate :=
  (MotionFrame.arbitrate s).metersRest s.arbitrate_attn

theorem State.complete_raise_metersRest (s : State) (f : FaderId) (o : EndOutcome) (k : SkipCause) (c : ReqClass) (t : Tag)
    (m : Marks) : s.MetersRest ((s.complete f o k c t m).raise .cueException) :=
  ((MotionFrame.complete s f o k c t m).metersRest rfl).trans (State.raise_metersRest _ (by decide))

theorem State.acceptHeld_metersRest (s : State) (r : Request) (c : Conversion) : s.MetersRest (s.acceptHeld r c) := by
  unfold State.acceptHeld
  split
  · exact State.modFader_metersRest ..
  · exact State.modFader_metersRest ..
  · split
    · exact State.complete_raise_metersRest ..
    · exact .refl s

theorem State.accept_metersRest (s : State) (r : Request) : s.MetersRest (s.accept r) := by
  unfold State.accept
  dsimp only
  split
  · exact (State.modFader_metersRest ..).trans (State.acceptHeld_metersRest ..)
  · split
    · exact (State.modFader_metersRest ..).trans ((MotionFrame.targetFromPresent ..).metersRest rfl)
    · split
      · exact ((State.modFader_metersRest ..).trans (State.modFader_metersRest ..)).trans (State.modFader_metersRest ..)
      · exact ((State.modFader_metersRest ..).trans (State.modFader_metersRest ..)).trans
          ((MotionFrame.acceptMotion ..).metersRest (State.acceptMotion_attn ..))

/-! ### What a frame expiry ends raises FADER_FAULT and BAY_LOST at most -/

theorem State.raise_arbitrate_metersRest {s t : State} (h : s.MetersRest t) {e : EventSource} (he : e ≠ .meterStale) :
    s.MetersRest (t.raise e).arbitrate :=
  (h.trans (t.raise_metersRest he)).trans (State.arbitrate_metersRest _)

theorem State.judgeSlot_metersRest (s : State) (i : SlotId) : s.MetersRest (s.judgeSlot i) := by
  have hmove : ∀ sl : Slot, s.MetersRest (s.timeoutMove i sl) := fun sl =>
    State.raise_arbitrate_metersRest (((MotionFrame.endMove s i sl .timedOut).trans (.modFader ..)).metersRest rfl)
      (by decide)
  have hpark : ∀ sl : Slot, s.MetersRest (s.timeoutPark i sl) := fun sl =>
    State.raise_arbitrate_metersRest ((((MotionFrame.complete ..).trans (.dropHoming _ i sl)).trans
      (.modFader ..)).metersRest (by simp)) (by decide)
  have hhome : ∀ (sl : Slot) (c : FaultCause), s.MetersRest (s.failHoming i sl c) := fun sl c =>
    State.raise_arbitrate_metersRest ((((MotionFrame.dropHoming s i sl).trans (.complete ..)).trans
      (.modFader ..)).metersRest (by simp)) (by decide)
  unfold State.judgeSlot
  split
  · exact .refl s
  · next sl _ =>
    split
    · exact hmove sl
    · split
      · exact hpark sl
      · split
        · exact ((MotionFrame.endHold s i sl).metersRest rfl).trans (State.arbitrate_metersRest _)
        · split
          · exact hhome sl _
          · exact .refl s

theorem State.judgeGuard_metersRest (s : State) (f : FaderId) : s.MetersRest (s.judgeGuard f) := by
  unfold State.judgeGuard
  dsimp only
  split
  · unfold State.endReleasing
    dsimp only
    split
    · exact (State.modFader_metersRest ..).trans (State.accept_metersRest ..)
    · exact (State.modFader_metersRest ..).trans ((MotionFrame.targetFromPresent ..).metersRest rfl)
  · exact .refl s

theorem State.fireCue_metersRest (s : State) (c : Cue) (now : BitVec 32) : s.MetersRest (s.fireCue c now) := by
  unfold State.fireCue
  dsimp only
  split
  · exact State.complete_raise_metersRest ..
  · split
    · exact State.complete_raise_metersRest ..
    · split
      · exact State.complete_raise_metersRest ..
      · split
        · exact (State.raise_metersRest s (by decide)).trans (State.accept_metersRest ..)
        · exact State.accept_metersRest ..

theorem State.fireCues_metersRest (s : State) (l : List Cue) : s.MetersRest (s.fireCues l) := by
  refine .foldl (fun t c => ?_) l s
  have herase : t.MetersRest { t with cues := { t.cues with cues := t.cues.cues.erase c } } := ⟨rfl, rfl, rfl⟩
  exact herase.trans (State.fireCue_metersRest ..)

theorem State.advanceShare_metersRest (s : State) : s.MetersRest s.advanceShare := by
  have htick : s.MetersRest s.tickSurface := ⟨rfl, rfl, rfl⟩
  unfold State.advanceShare
  split
  · exact htick.trans (State.fireCues_metersRest ..)
  · exact State.fireCues_metersRest ..
  · exact .refl s

theorem State.forFitted_metersRest {act : State → Position → State} (h : ∀ (t : State) p, t.MetersRest (act t p)) (s : State)
    (b : BayId) : s.MetersRest (s.forFitted b act) :=
  .foldl (fun t p => by split <;> [exact h t p; exact .refl t]) _ s

theorem State.missFrame_metersRest (s : State) (b : BayId) : s.MetersRest (s.missFrame b) := by
  have hlost : ∀ t : State, t.MetersRest (t.loseBay b) := fun t =>
    State.raise_arbitrate_metersRest ((State.forFitted_metersRest (act := fun u p => u.loseFader (faderAt b p))
      (fun _ _ => (MotionFrame.loseFader ..).metersRest (State.loseFader_attn ..)) t b).trans
        (State.modBay_metersRest ..)) (by decide)
  have hzero : s.MetersRest (s.zeroDrives b) := (MotionFrame.mapSlots ..).metersRest (State.mapSlots_attn ..)
  unfold State.missFrame
  dsimp only
  split
  · exact hzero
  · exact hzero
  · exact hzero.trans (State.modBay_metersRest ..)
  · split
    · exact hzero.trans (hlost _)
    · exact hzero.trans (State.modBay_metersRest ..)

theorem State.closeWindow_metersRest (s : State) (b : BayId) : s.MetersRest (s.closeWindow b) := by
  unfold State.closeWindow
  dsimp only
  split
  · exact (State.modBay_metersRest ..).trans (State.missFrame_metersRest ..)
  · exact State.modBay_metersRest ..

theorem State.tickCounters_metersRest (s : State) : s.MetersRest s.tickCounters := by
  have hslots : s.MetersRest s.tickSlots := by
    constructor <;> simp only [State.tickSlots, State.stalePending]
  have hquiet : ∀ t : State, t.MetersRest t.tickQuiet := fun _ => ⟨rfl, rfl, rfl⟩
  exact (hslots.trans ((MotionFrame.mapFaders ..).metersRest (State.mapFaders_attn ..))).trans (hquiet _)

theorem State.sendFrame_metersRest (s : State) (b : BayId) : s.MetersRest (s.sendFrame b) :=
  ((s.countFrame_frame b).metersRest (State.mapSlots_attn ..)).trans
    (State.modBay_metersRest _ b fun x =>
      { x with seq := (s.driveFrame b).seq, window := .opened, sent := some (s.driveFrame b) })

end Sys2Proof.Machine
end

section
/-! Meters at a frame expiry, taken early or with the rest of it (R119), and the second readout word (R121, R126): O36. -/

namespace Sys2Proof.Machine

/-! ### One meter at a frame expiry -/

/-- The intake timer of a meter counts: it is not stale and has a timeout (R119). -/
def Meter.timed (y : Meter) : Bool :=
  !y.stale && decide (0 < y.setup.intakeTimeout)

/-- The three steps of R119 in one: decay, hold timer or hold, and intake timer with what turning stale does. -/
theorem Meter.expiry_eq (y : Meter) :
    let level := if y.setup.kind = .peak then
      (if y.level - y.setup.decay < -6000 then -6000 else y.level - y.setup.decay) else y.level
    let hold := if 0 < y.holdTimer then y.hold
      else if y.hold - y.setup.decay < level then level else y.hold - y.setup.decay
    y.expiry =
      if y.timesOut then
        { y with level := -6000, hold := -6000, holdTimer := 0, overRun := 0, stale := true, intakeTimer := y.intakeTimer + 1 }
      else { y with level := level, hold := hold, holdTimer := y.holdTimer - 1,
                    intakeTimer := if y.timed then y.intakeTimer + 1 else y.intakeTimer } := by
  intro level hold
  have hmax : ∀ a b : Int, max a b = if b < a then a else b := fun a b => by split_ifs <;> omega
  have hdecay : y.decayLevel = { y with level := level } := by
    unfold Meter.decayLevel
    cases hk : y.setup.kind with
    | peak => simp only [level, hk, if_true, hmax]; rfl
    | average => simp [level, hk]
  have hheld : y.decayLevel.decayHold = { y with level := level, hold := hold, holdTimer := y.holdTimer - 1 } := by
    rw [hdecay, Meter.decayHold]
    dsimp only
    split
    · next h => simp only [hold, if_pos h]
    · next h =>
      have h0 : y.holdTimer = 0 := by omega
      simp only [hold, h0, hmax, lt_irrefl, if_false]
  rw [Meter.expiry, hheld, Meter.timeIntake, Meter.timesOut, Meter.timed]
  dsimp only
  by_cases htimed : (!y.stale && decide (0 < y.setup.intakeTimeout)) = true
  · rw [if_pos htimed, if_pos htimed, htimed, Bool.true_and]
    by_cases hout : y.setup.intakeTimeout ≤ y.intakeTimer + 1
    · rw [if_pos hout, if_pos (decide_eq_true hout)]; rfl
    · rw [if_neg hout, if_neg (by simpa using hout)]
  · rw [if_neg htimed, if_neg htimed, if_neg (by simp [Bool.eq_false_iff.mpr htimed])]

theorem State.meterExpiry_eq (s : State) (m : MeterId) :
    s.meterExpiry m = { s.setMeter m (s.meter m).expiry with attn := { s.attn with events :=
      { s.attn.events with meterStale := s.attn.events.meterStale || (s.meter m).timesOut } } } := by
  unfold State.meterExpiry
  dsimp only
  cases (s.meter m).timesOut with
  | true => rw [Bool.or_true]; rfl
  | false => rw [Bool.or_false]; rfl

/-! ### The meters at a frame expiry, those taken early left out -/

/-- A meter turns stale at the expiry: its share is not taken yet, and its intake timer reaches the timeout (R119). -/
def State.turnsStale (s : State) (m : MeterId) : Bool :=
  !s.early.meters[m] && (s.meter m).timesOut

theorem State.meterShare_early (s : State) (m : MeterId) : (s.meterShare m).early = s.early := by
  unfold State.meterShare
  split
  · rfl
  · rw [State.meterExpiry_eq]; rfl

theorem State.meterShare_meter (s : State) (m j : MeterId) :
    (s.meterShare m).meter j = if m = j ∧ s.early.meters[j] = false then (s.meter j).expiry else s.meter j := by
  have hexpiry : (s.meterExpiry m).meter j = if m = j then (s.meter m).expiry else s.meter j := by
    rw [State.meterExpiry_eq]
    exact s.setMeter_meter ..
  unfold State.meterShare
  by_cases hj : m = j
  · subst hj
    cases s.early.meters[m] <;> simp [hexpiry]
  · rw [apply_ite fun t : State => t.meter j, hexpiry]
    simp [hj]

theorem State.meterShare_stalePending (s : State) (m : MeterId) :
    (s.meterShare m).stalePending = (s.stalePending || s.turnsStale m) := by
  unfold State.meterShare State.turnsStale
  cases s.early.meters[m] with
  | true => exact (Bool.or_false _).symm
  | false => simp only [Bool.false_eq_true, if_false, State.meterExpiry_eq]; rfl

theorem State.meterShare_turnsStale {s : State} {m j : MeterId} (h : m ≠ j) :
    (s.meterShare m).turnsStale j = s.turnsStale j := by
  rw [State.turnsStale, State.turnsStale, State.meterShare_early, State.meterShare_meter, if_neg fun hj => h hj.1]

theorem State.foldl_meterShare_meter {l : List MeterId} (hl : l.Nodup) (s : State) (j : MeterId) :
    (l.foldl State.meterShare s).meter j =
      if j ∈ l ∧ s.early.meters[j] = false then (s.meter j).expiry else s.meter j := by
  induction l generalizing s with
  | nil => simp
  | cons m rest ih =>
    obtain ⟨hm, hrest⟩ := List.nodup_cons.mp hl
    rw [List.foldl_cons, ih hrest, State.meterShare_early, State.meterShare_meter]
    by_cases hj : m = j
    · subst hj; simp [hm]
    · simp [hj, Ne.symm hj]

theorem State.foldl_meterShare_stalePending {l : List MeterId} (hl : l.Nodup) (s : State) :
    (l.foldl State.meterShare s).stalePending = true ↔ s.stalePending = true ∨ ∃ m ∈ l, s.turnsStale m = true := by
  induction l generalizing s with
  | nil => simp
  | cons m rest ih =>
    obtain ⟨hm, hrest⟩ := List.nodup_cons.mp hl
    have hothers : (∃ j ∈ rest, (s.meterShare m).turnsStale j = true) ↔ ∃ j ∈ rest, s.turnsStale j = true :=
      exists_congr fun j => and_congr_right fun hj => by rw [State.meterShare_turnsStale (ne_of_mem_of_not_mem hj hm).symm]
    rw [List.foldl_cons, ih hrest, hothers, State.meterShare_stalePending, Bool.or_eq_true, List.exists_mem_cons_iff,
      or_assoc]

/-- A frame expiry as far as the blocks that come before the meters. -/
def State.expireBeforeMeters (s : State) : State :=
  State.advanceShare ((List.finRange 48).foldl State.judgeGuard ((List.finRange 16).foldl State.judgeSlot
    ((List.finRange 6).foldl State.closeWindow s.tickCounters)))

theorem State.expire_eq (s : State) :
    s.expire = ((List.finRange 6).foldl State.sendFrame s.expireBeforeMeters.metersExpiry).endExpiry := rfl

theorem State.endExpiry_meter (s : State) (m : MeterId) : s.endExpiry.meter m = s.meter m := rfl

theorem State.endExpiry_stalePending (s : State) : s.endExpiry.stalePending = s.stalePending := rfl

theorem State.expireBeforeMeters_metersRest (s : State) : s.MetersRest s.expireBeforeMeters :=
  (((s.tickCounters_metersRest.trans (.foldl State.closeWindow_metersRest _ _)).trans
    (.foldl State.judgeSlot_metersRest _ _)).trans (.foldl State.judgeGuard_metersRest _ _)).trans
    (State.advanceShare_metersRest _)

theorem State.MetersRest.meter {s t : State} (h : s.MetersRest t) (m : MeterId) : t.meter m = s.meter m := by
  rw [State.meter, State.meter, h.engine]

theorem State.MetersRest.turnsStale {s t : State} (h : s.MetersRest t) (m : MeterId) : t.turnsStale m = s.turnsStale m := by
  rw [State.turnsStale, State.turnsStale, h.early, h.meter]

theorem State.metersExpiry_meter (s : State) (m : MeterId) :
    s.metersExpiry.meter m = if s.early.meters[m] then s.meter m else (s.meter m).expiry := by
  rw [State.metersExpiry, State.foldl_meterShare_meter (List.nodup_finRange 48)]
  cases s.early.meters[m] <;> simp

theorem State.metersExpiry_stalePending (s : State) :
    s.metersExpiry.stalePending = true ↔ s.stalePending = true ∨ ∃ m, s.turnsStale m = true := by
  simp only [State.metersExpiry, State.foldl_meterShare_stalePending (List.nodup_finRange 48), List.mem_finRange, true_and]

theorem State.sendFrames_metersRest (s : State) : s.MetersRest ((List.finRange 6).foldl State.sendFrame s) :=
  .foldl State.sendFrame_metersRest _ s

/-- Every block of an expiry but the meters' own leaves the meters alone (R119). -/
theorem State.expire_meter (s : State) (m : MeterId) :
    s.expire.meter m = if s.early.meters[m] then s.meter m else (s.meter m).expiry := by
  have hbefore := s.expireBeforeMeters_metersRest
  rw [State.expire_eq, State.endExpiry_meter, (State.sendFrames_metersRest _).meter, State.metersExpiry_meter, hbefore.early,
    hbefore.meter]

/-- METER_STALE after an expiry: pending before, or raised for a meter that turns stale (R119). -/
theorem State.expire_stalePending (s : State) :
    s.expire.stalePending = true ↔ s.stalePending = true ∨ ∃ m, s.turnsStale m = true := by
  have hbefore := s.expireBeforeMeters_metersRest
  rw [State.expire_eq, State.endExpiry_stalePending, (State.sendFrames_metersRest _).stale, State.metersExpiry_stalePending,
    hbefore.stale]
  simp only [hbefore.turnsStale]

/-! ### One meter's share taken early -/

theorem State.meterEvent_due {s : State} {m : MeterId} (he : s.early.meters[m] = false)
    (ht : (s.meter m).timesOut = true) :
    s.meterEvent m = { s.setMeter m (s.meter m).expiry with
      attn := { s.attn with events := { s.attn.events with meterStale := true } }
      early := { s.early with meters := s.early.meters.set m true } } := by
  have hdue : (!s.early.meters[m] && (s.meter m).timesOut) = true := by rw [he, ht]; rfl
  rw [State.meterEvent, if_pos hdue, State.meterExpiry_eq, ht, Bool.or_true]
  rfl

theorem State.meterEvent_idle {s : State} {m : MeterId} (h : s.early.meters[m] = true ∨ (s.meter m).timesOut = false) :
    s.meterEvent m = s := by
  have hdue : ¬(!s.early.meters[m] && (s.meter m).timesOut) = true := by rcases h with h | h <;> simp [h]
  rw [State.meterEvent, if_neg hdue]

theorem State.answers_intakeTimeout {s : State} (hr : s.bus.inReset = false) {m : MeterId} {t : State}
    (h : s.meterEvent m = t) : s.answers (.intakeTimeout m) t :=
  congrArg State.done ((State.unlessReset_live hr _).trans h)

/-! ### The second readout word (R121, R126) -/

theorem Meter.readoutWord2_fields (y : Meter) (scale : List Int) :
    holdsFields (y.readoutWord2 scale) [(0, 6, y.lit scale), (8, 6, y.holdSegment scale), (16, 1, y.overLatch.toNat),
      (17, 1, y.stale.toNat)] :=
  holdsFields_of_packed (by simp [packed, Meter.readoutWord2, putFlag, BitVec.or_assoc]) (by simp [Layout, Apart])

/-- Settles O36: the expiry by what its other blocks leave of the meters, a share taken early, and the second readout. -/
theorem metersAtExpiryAndReadout : Obligations.MetersAtExpiryAndReadout := by
  unfold Obligations.MetersAtExpiryAndReadout
  constructor
  · intro s hr timed stales after
    have hafter : ∀ y, y.expiry = after y := Meter.expiry_eq
    refine ⟨⟨s.expire.driveAttn, congrArg State.done (State.unlessReset_live hr _), fun m => ?_, ?_⟩, fun m => ⟨?_, ?_⟩⟩
    · rw [← hafter, State.driveAttn_meter]
      exact s.expire_meter m
    · rw [State.driveAttn_events]
      refine s.expire_stalePending.trans (or_congr_right (exists_congr fun m => ?_))
      rw [State.turnsStale, Bool.and_eq_true, Bool.not_eq_true']
      rfl
    · intro he ht
      rw [← hafter]
      exact State.answers_intakeTimeout hr (State.meterEvent_due he ht)
    · exact fun h => State.answers_intakeTimeout hr (State.meterEvent_idle h)
  · intro m s hr _ y
    refine ⟨y.readoutWord2 s.engine.scale, congrArg State.done (State.readWord_live hr rfl _), ?_⟩
    have hfields := y.readoutWord2_fields s.engine.scale
    simp only [Meter.lit, Meter.holdSegment, List.countP_eq_length_filter] at hfields
    exact hfields

end Sys2Proof.Machine
end

section
/-! The check of a sense frame and what it does to a bay that is not Present (R131, R133), and a supply report that turns bad
(R138, R139): O41 and O43. -/

namespace Sys2Proof.Machine

/-! ### Which frames are taken (R131) -/

theorem getElem?_eq_some_iff_getD {α : Type} {l : List α} {i : Nat} (h : i < l.length) (x d : α) :
    l[i]? = some x ↔ l.getD i d = x := by
  simp [List.getD_eq_getElem?_getD, List.getElem?_eq_getElem h]

/-- A frame of 20 bytes is good by its start byte, its sum and its echo (R131). -/
theorem goodFrame_iff {bytes : List Byte} (hlen : bytes.length = 20) (seq : Byte) : goodFrame bytes seq = true ↔
    bytes[0]? = some 0xE6 ∧ bytes.tail.foldl (· + ·) 0 = (0 : Byte) ∧ bytes[1]? = some seq := by
  rw [getElem?_eq_some_iff_getD (by omega) _ 0, getElem?_eq_some_iff_getD (by omega) _ 0]
  simp only [goodFrame, hlen, Bool.and_eq_true, decide_eq_true_eq, true_and, and_assoc]
  rfl

/-- A frame that finds no open window or is not good is discarded (R131). -/
theorem State.receiveFrame_discarded {s : State} {b : BayId} {bytes : List Byte}
    (h : (s.bay b).window ≠ .opened ∨ ¬goodFrame bytes (s.bay b).seq = true) : s.receiveFrame b bytes = s :=
  if_neg (not_and_or.mpr h)

/-! ### A good frame of a bay that is not Present (R133) -/

theorem State.modBay_modBay (s : State) (b : BayId) (g h : Bay → Bay) :
    (s.modBay b g).modBay b h = s.setBay b (h (g (s.bay b))) := by
  simp [State.modBay, State.setBay, State.bay]

/-- A good frame in an open window marks it answered, and is then taken by the bay's state (R131, R133). -/
theorem State.receiveFrame_answered {s : State} {b : BayId} {bytes : List Byte} (hopen : (s.bay b).window = .opened)
    (hgood : goodFrame bytes (s.bay b).seq = true) :
    s.receiveFrame b bytes = (s.modBay b fun x => { x with window := .answered }).takeGoodFrame b bytes :=
  if_pos ⟨hopen, hgood⟩

theorem State.takeGoodFrame_absent {s : State} {b : BayId} (h : (s.bay b).state = .absent) (bytes : List Byte) :
    s.takeGoodFrame b bytes = s.modBay b fun x => { x with state := .joining, origin := .absent, joinRun := 1 } := by
  simp only [State.takeGoodFrame, h]

theorem State.takeGoodFrame_lost {s : State} {b : BayId} (h : (s.bay b).state = .lost) (bytes : List Byte) :
    s.takeGoodFrame b bytes = s.modBay b fun x => { x with state := .joining, origin := .lost, joinRun := 1 } := by
  simp only [State.takeGoodFrame, h]

/-- A Joining bay counts a good frame that is not yet its eighth. -/
theorem State.takeGoodFrame_counted {s : State} {b : BayId} (h : (s.bay b).state = .joining) (hrun : (s.bay b).joinRun < 7)
    (bytes : List Byte) : s.takeGoodFrame b bytes = s.modBay b fun x => { x with joinRun := x.joinRun + 1 } := by
  have hfew : ¬Config.joinFrames ≤ (s.bay b).joinRun + 1 := Nat.not_le.mpr (Nat.succ_lt_succ hrun)
  simp only [State.takeGoodFrame, h, if_neg hfew]

/-- What a frame answers of which only the bay record changes, the window with it (R133). -/
theorem State.answers_countedFrame {s : State} (hr : s.bus.inReset = false) {b : BayId} {bytes : List Byte}
    (hopen : (s.bay b).window = .opened) (hgood : goodFrame bytes (s.bay b).seq = true) {g : Bay → Bay}
    (h : ∀ t : State, t.bay b = { s.bay b with window := .answered } → t.takeGoodFrame b bytes = t.modBay b g) :
    s.answers (.senseFrame b bytes) (s.setBay b (g { s.bay b with window := .answered })) := by
  have htaken := State.receiveFrame_answered hopen hgood
  rw [h _ (s.modBay_bay_self b _), State.modBay_modBay] at htaken
  exact htaken ▸ State.answers_senseFrame hr b bytes

/-- Settles O41: frames that are not good or unasked are discarded, and a good one is counted by the state of the bay. -/
theorem senseFramesBeforePresent : Obligations.SenseFramesBeforePresent := by
  unfold Obligations.SenseFramesBeforePresent
  intro b bytes s hr hlen x good
  have hgood : goodFrame bytes x.seq = true ↔ good := goodFrame_iff hlen x.seq
  refine ⟨fun h => ?discarded, fun hopen h => ⟨fun hst => ?absent, fun hst => ?lost, fun hst hrun => ?joining⟩⟩
  case discarded =>
    have hkept := State.receiveFrame_discarded (h.imp_right (mt hgood.mp))
    have hanswer := State.answers_senseFrame hr b bytes
    rwa [hkept] at hanswer
  case absent =>
    exact State.answers_countedFrame hr hopen (hgood.mpr h) fun t ht =>
      State.takeGoodFrame_absent (by rw [ht]; exact hst) bytes
  case lost =>
    exact State.answers_countedFrame hr hopen (hgood.mpr h) fun t ht =>
      State.takeGoodFrame_lost (by rw [ht]; exact hst) bytes
  case joining =>
    exact State.answers_countedFrame hr hopen (hgood.mpr h) fun t ht =>
      State.takeGoodFrame_counted (by rw [ht]; exact hst) (by rw [ht]; exact hrun) bytes

/-! ### A supply report (R138, R139) -/

/-- Under the ownership invariant the ends of service of a bay's fitted faders, in position order, are the rules'. -/
theorem State.endServices_eq {s : State} (hs : s.owned) (b : BayId) (o : EndOutcome) :
    (s.forFitted b fun t p => t.endService (faderAt b p) o) =
      (s.fittedFaders b).foldl (fun t f => t.serviceEnded f o) s := by
  rw [State.forFitted_eq_foldl fun _ => rfl, State.fittedFaders, List.foldl_map]
  exact foldl_congr_of (P := State.owned) hs fun t p _ ht => ⟨State.endService_eq ht _ o, State.owned_endService ht _ o⟩

/-- A supply that newly fails, with the ends of service as the rules have them (R138). -/
theorem State.failSupply_eq {s : State} (hs : s.owned) (b : BayId) :
    s.failSupply b = (s.fittedFaders b).foldl (fun t f => t.serviceEnded f .supplyFault)
      { s.setBay b { s.bay b with supplyFault := true, supplyGood := false } with
        attn := { s.attn with events := { s.attn.events with supplyFault := true } } } := by
  unfold State.failSupply
  set t := (s.modBay b fun x => { x with supplyFault := true, supplyGood := false }).raise .supplyFault with ht
  have hown : t.owned := hs.of_eq rfl rfl rfl
  have hfits : t.fittedFaders b = s.fittedFaders b := by
    simp only [State.fittedFaders, ht, State.raise_bay, State.modBay_bay_self, Bay.fits]
  rw [State.endServices_eq hown, hfits]
  rfl

/-- Settles O43: the three cases of the supply step, the ends of service by the ownership invariant. -/
theorem supplyReportEndsService : Obligations.SupplyReportEndsService := by
  unfold Obligations.SupplyReportEndsService
  intro b bytes s hs good x
  have hreport : senseSupplyGood bytes = good := rfl
  rw [State.takeSupply_eq, hreport]
  refine ⟨fun hg => if_pos hg, fun hg hfault => ?faulted, fun hg hclear => ?turnsBad⟩
  case faulted =>
    have hset : { x with supplyFault := true, supplyGood := false } = { x with supplyGood := false } := by rw [← hfault]
    rw [hg, if_neg Bool.false_ne_true, if_pos hfault, ← hset]
    rfl
  case turnsBad =>
    have hnot : ¬(s.bay b).supplyFault = true := by rw [hclear]; exact Bool.false_ne_true
    rw [hg, if_neg Bool.false_ne_true, if_neg hnot, State.failSupply_eq hs]

end Sys2Proof.Machine
end

section
/-! The bytes of a drive frame (R130, section 12.7): O44. -/

namespace Sys2Proof.Machine

/-! ### Lists of two bytes for each entry -/

theorem length_flatMap_pair {α β : Type} (f g : α → β) (l : List α) :
    (l.flatMap fun a => [f a, g a]).length = 2 * l.length := by
  simp [List.length_flatMap, Nat.mul_comm]

/-- Both bytes of an entry stand at twice its place. -/
theorem getElem?_flatMap_pair {α β : Type} (f g : α → β) (l : List α) (i : Nat) :
    (l.flatMap fun a => [f a, g a])[2 * i]? = l[i]?.map f ∧ (l.flatMap fun a => [f a, g a])[2 * i + 1]? = l[i]?.map g := by
  induction l generalizing i with
  | nil => simp
  | cons a rest ih =>
    cases i with
    | zero => simp
    | succ i => simpa [Nat.mul_succ] using ih i

/-! ### Where the bytes of a drive frame stand (section 12.7) -/

/-- The bytes of the fader entries. -/
def DriveFrame.faderBytes (fr : DriveFrame) : List Byte :=
  fr.faders.toList.flatMap DriveEntry.bytes

/-- The bytes of the meter entries. -/
def DriveFrame.meterBytes (fr : DriveFrame) : List Byte :=
  fr.meters.toList.flatMap MeterEntry.bytes

theorem DriveFrame.bytes_eq (fr : DriveFrame) :
    fr.bytes = Config.driveStart :: fr.seq :: (fr.faderBytes ++ (fr.meterBytes ++ [-(byteSum fr.body)])) := by
  simp [DriveFrame.bytes, DriveFrame.body, DriveFrame.faderBytes, DriveFrame.meterBytes]

theorem DriveFrame.faderBytes_length (fr : DriveFrame) : fr.faderBytes.length = 16 := by
  rw [DriveFrame.faderBytes]
  exact (length_flatMap_pair _ _ _).trans (by simp)

theorem DriveFrame.meterBytes_length (fr : DriveFrame) : fr.meterBytes.length = 16 := by
  rw [DriveFrame.meterBytes]
  exact (length_flatMap_pair _ _ _).trans (by simp)

theorem DriveFrame.bytes_length (fr : DriveFrame) : fr.bytes.length = 35 := by
  simp [fr.bytes_eq, fr.faderBytes_length, fr.meterBytes_length]

/-- A byte of the fader entries, behind the start byte and the sequence number. -/
theorem DriveFrame.bytes_fader (fr : DriveFrame) {i : Nat} (h : i < 16) : fr.bytes[2 + i]? = fr.faderBytes[i]? := by
  rw [fr.bytes_eq, Nat.add_comm 2 i, List.getElem?_cons_succ, List.getElem?_cons_succ,
    List.getElem?_append_left (fr.faderBytes_length ▸ h)]

/-- A byte of the meter entries, behind those of the fader entries. -/
theorem DriveFrame.bytes_meter (fr : DriveFrame) {i : Nat} (h : i < 16) : fr.bytes[18 + i]? = fr.meterBytes[i]? := by
  rw [fr.bytes_eq, show 18 + i = 16 + i + 1 + 1 by omega, List.getElem?_cons_succ, List.getElem?_cons_succ,
    ← fr.faderBytes_length, List.getElem?_append_right (Nat.le_add_right _ _), Nat.add_sub_cancel_left,
    List.getElem?_append_left (fr.meterBytes_length ▸ h)]

/-- The two bytes of a fader entry, in their places. -/
theorem DriveFrame.bytes_faderEntry (fr : DriveFrame) (p : Position) :
    fr.bytes[2 + 2 * p.val]? = some (BitVec.ofNat 8 fr.faders[p].enable.toNat) ∧
      fr.bytes[3 + 2 * p.val]? = some (BitVec.ofInt 8 fr.faders[p].drive) := by
  have hentry : fr.faders.toList[p.val]? = some fr.faders[p] := by simp
  obtain ⟨hfirst, hsecond⟩ := getElem?_flatMap_pair (fun e : DriveEntry => BitVec.ofNat 8 e.enable.toNat)
    (fun e => BitVec.ofInt 8 e.drive) fr.faders.toList p.val
  rw [hentry] at hfirst hsecond
  rw [show 3 + 2 * p.val = 2 + (2 * p.val + 1) by omega, fr.bytes_fader (by omega), fr.bytes_fader (by omega)]
  exact ⟨hfirst, hsecond⟩

/-- The first byte of a meter entry: lit segments, and the over light in bit 7 (section 12.7). -/
def MeterEntry.firstByte (e : MeterEntry) : Byte :=
  (BitVec.ofNat 6 e.lit).setWidth 8 ||| (BitVec.ofNat 8 e.overLight.toNat <<< 7)

/-- The two bytes of a meter entry, in their places. -/
theorem DriveFrame.bytes_meterEntry (fr : DriveFrame) (p : Position) :
    fr.bytes[18 + 2 * p.val]? = some fr.meters[p].firstByte ∧
      fr.bytes[19 + 2 * p.val]? = some (BitVec.ofNat 8 fr.meters[p].hold) := by
  have hentry : fr.meters.toList[p.val]? = some fr.meters[p] := by simp
  obtain ⟨hfirst, hsecond⟩ := getElem?_flatMap_pair MeterEntry.firstByte (fun e => BitVec.ofNat 8 e.hold)
    fr.meters.toList p.val
  rw [hentry] at hfirst hsecond
  rw [show 19 + 2 * p.val = 18 + (2 * p.val + 1) by omega, fr.bytes_meter (by omega), fr.bytes_meter (by omega)]
  exact ⟨hfirst, hsecond⟩

/-! ### The check byte and the values of the entries -/

theorem byteSum_append_neg (l : List Byte) : byteSum (l ++ [-(byteSum l)]) = 0 := by
  rw [byteSum, List.foldl_append]
  exact add_neg_cancel (byteSum l)

theorem DriveFrame.byteSum_tail (fr : DriveFrame) : byteSum fr.bytes.tail = 0 :=
  byteSum_append_neg fr.body

theorem MeterEntry.firstByte_toNat {e : MeterEntry} (h : e.lit ≤ 32) :
    e.firstByte.toNat = e.lit + if e.overLight then 128 else 0 := by
  have hlit : ((BitVec.ofNat 6 e.lit).setWidth 8).toNat = e.lit := by simp; omega
  have hover : (BitVec.ofNat 8 e.overLight.toNat <<< 7).toNat = e.overLight.toNat <<< 7 := by cases e.overLight <;> rfl
  calc e.firstByte.toNat = e.lit ||| e.overLight.toNat <<< 7 := by rw [MeterEntry.firstByte, BitVec.toNat_or, hlit, hover]
    _ = e.overLight.toNat <<< 7 + e.lit := by rw [Nat.or_comm, Nat.shiftLeft_add_eq_or_of_lt (by omega)]
    _ = e.lit + if e.overLight then 128 else 0 := by cases e.overLight <;> simp [Nat.add_comm]

theorem MeterEntry.firstByte_bits (e : MeterEntry) :
    e.firstByte.getLsbD 6 = false ∧ e.firstByte.getLsbD 7 = e.overLight := by
  unfold MeterEntry.firstByte
  cases e.overLight <;> simp

/-- Settles O44: each entry's bytes in their places with their values, and the check byte. -/
theorem driveFrameBytes : Obligations.DriveFrameBytes := by
  unfold Obligations.DriveFrameBytes
  intro fr
  refine ⟨fr.bytes_length, rfl, rfl, fr.byteSum_tail, fun p => ?_⟩
  obtain ⟨henable, hdrive⟩ := fr.bytes_faderEntry p
  obtain ⟨hlit, hhold⟩ := fr.bytes_meterEntry p
  obtain ⟨hbit6, hbit7⟩ := fr.meters[p].firstByte_bits
  refine ⟨⟨_, _, henable, hdrive, ?enable, fun hlo hhi => BitVec.toInt_ofInt_eq_self (by decide) hlo (by omega)⟩,
    ⟨_, _, hlit, hhold, MeterEntry.firstByte_toNat, hbit6, hbit7, fun h => Nat.mod_eq_of_lt (by omega)⟩⟩
  case enable => cases fr.faders[p].enable <;> rfl

end Sys2Proof.Machine
end

section
/-! The part while RESET is asserted (R141, R154): O11. -/

namespace Sys2Proof.Machine

/-! ### The bus -/

/-- A bus write command answers what the bus path makes of its access (R154, R155). -/
theorem exec_onBus {c : Instr} {word : ImageWord} {l : Lanes} (h : busForm c = some (word, l)) (s : State) :
    ∃ take, exec c s = (s.onBus word l take).done := by
  cases c with
  | reset | resetRelease | frameExpiry | cueFiring | intakeTimeout | moveTimeout | parkTimeout | holdExpiry
  | homeLimitExceeded | releasingEnd | quietIntervalEnd | missedFrame | senseFrame | slotGrant | preEmption | wordWrite
  | presentGainRead | portARead | portBRead | movedWordRead | readout2Read => exact nomatch h
  | _ => cases h; exact ⟨_, rfl⟩

/-- While RESET is asserted an address falls in no word of the image (R154). -/
theorem State.wordAtAddress_reset {s : State} (hr : s.bus.inReset = true) (addr : Nat) : s.wordAtAddress addr = none :=
  if_pos hr

theorem State.writeAt_reset {s : State} (hr : s.bus.inReset = true) (addr : BitVec 32) (l : Lanes) :
    s.writeAt addr l = s.store (addr.toNat - addr.toNat % 4) l := by
  rw [State.writeAt, State.wordAtAddress_reset hr]

/-- While RESET is asserted a read returns memory's data and acts on nothing (R154). -/
theorem State.readWord_reset {s : State} (hr : s.bus.inReset = true) (w : ImageWord) (act : State → State) :
    s.readWord w act =
      { s with bus := { s.bus with readData := Memory.readLanes s.mem (s.imageBase + w.offset) } } := by
  simp [State.readWord, State.wordData, State.addressOf, hr]

/-! ### The events -/

/-- While RESET is asserted no event of the part happens (R141). -/
theorem State.unlessReset_reset {s : State} (hr : s.bus.inReset = true) (act : State → State) : s.unlessReset act = s :=
  if_pos hr

/-- Settles O11: writes and reads by the bus path under RESET, events by what they are taken unless. -/
theorem resetMakesThePartPlain : Obligations.ResetMakesThePartPlain := by
  unfold Obligations.ResetMakesThePartPlain
  intro s hr
  refine ⟨fun c word l h => ?write, fun addr l => ?anywhere, fun c word h => ?read, fun c h => ?event⟩
  case write =>
    obtain ⟨take, hexec⟩ := exec_onBus h s
    rw [State.onBus_reset hr] at hexec
    exact State.writes_of_store hexec rfl rfl
  case anywhere =>
    exact ⟨_, storesAt_writeLanes _ _ _, congrArg State.done (State.writeAt_reset hr addr l)⟩
  case read =>
    have hread : ∃ act, exec c s = (s.readWord word act).done := by
      simp only [List.mem_cons, Prod.mk.injEq, List.not_mem_nil, or_false] at h
      rcases h with (⟨rfl, rfl⟩ | ⟨rfl, rfl⟩ | ⟨rfl, rfl⟩ | ⟨rfl, rfl⟩) | ⟨f, rfl, rfl⟩ | ⟨m, rfl, rfl⟩ <;>
        exact ⟨_, rfl⟩
    obtain ⟨act, hexec⟩ := hread
    exact hexec.trans (congrArg State.done (State.readWord_reset hr word act))
  case event =>
    have hevent : ∃ act, exec c s = (s.unlessReset act).done := by
      simp only [List.mem_cons, List.not_mem_nil, or_false] at h
      rcases h with (rfl | rfl | rfl | rfl | rfl) | ⟨i, rfl | rfl | rfl | rfl⟩ | ⟨f, rfl⟩ | ⟨m, rfl⟩ | ⟨b, rfl⟩ |
        ⟨b, bytes, rfl⟩ <;> exact ⟨_, rfl⟩
    obtain ⟨act, hexec⟩ := hevent
    exact hexec.trans (congrArg State.done (State.unlessReset_reset hr act))

end Sys2Proof.Machine
end

section
/-! The attention line and the attention word (R150, R151, R161): O3 and O4. -/

namespace Sys2Proof.Machine

/-! ### The line after a command (R150) -/

/-- Every command ends by driving the attention line. -/
theorem exec_eq_done (c : Instr) (s : State) : ∃ u : State, exec c s = u.done := by
  cases c <;> exact ⟨_, rfl⟩

theorem exec_attnCurrent {c : Instr} {s t : State} (h : exec c s = .next t) : t.attnCurrent := by
  obtain ⟨u, hu⟩ := exec_eq_done c s
  cases hu.symm.trans h
  exact u.driveAttn_line

/-! ### Which source asserts the line -/

theorem State.completionPending_iff (s : State) : s.completionPending = true ↔ s.completions ≠ [] := by
  simp [State.completionPending]

theorem State.manualPending_iff (s : State) : s.manualPending = true ↔ ∃ f, (s.fader f).moved = true := by
  simp [State.manualPending]

/-- A hard source asserts the line whenever it is pending. -/
theorem State.sourceAsserts_hard (s : State) {n : Nat} (h : 9 ≤ n) : s.sourceAsserts n = s.sourcePending n := by
  simp [State.sourceAsserts, h]

/-- Any other source asserts the line when it is pending and its level lets it. -/
theorem State.sourceAsserts_iff (s : State) {n : Nat} (h : n < 9) :
    s.sourceAsserts n = true ↔ s.sourcePending n = true ∧ s.attn.asserts (s.attn.level n) := by
  simp [State.sourceAsserts, Attention.asserts, Nat.not_le.mpr h, and_assoc]

/-- The line's rule, with the hard sources first. -/
theorem State.attnAsserted_iff (s : State) : s.attnAsserted = true ↔
    (∃ n ∈ [9, 10], s.sourcePending n = true) ∨
      ∃ n ∈ [1, 2, 3, 4, 5, 6, 7, 8], s.sourcePending n = true ∧ s.attn.asserts (s.attn.level n) := by
  have hsplit : sourceNumbers = [1, 2, 3, 4, 5, 6, 7, 8] ++ [9, 10] := rfl
  rw [State.attnAsserted, hsplit, List.any_append, Bool.or_eq_true, List.any_eq_true, List.any_eq_true, or_comm]
  refine or_congr (exists_congr fun n => and_congr_right fun hn => ?_)
    (exists_congr fun n => and_congr_right fun hn => s.sourceAsserts_iff ?_)
  · rw [s.sourceAsserts_hard]
    revert n; decide
  · revert n; decide

/-- Settles O3: the line follows its rule after every command, and the rule is read off source by source. -/
theorem attnLineFollowsRule : Obligations.AttnLineFollowsRule := by
  unfold Obligations.AttnLineFollowsRule
  intro c s t h
  rw [exec_attnCurrent h, State.attnAsserted_iff]
  simp only [List.mem_cons, List.not_mem_nil, or_false, exists_eq_or_imp, exists_eq_left, or_assoc]
  rw [← State.completionPending_iff, ← State.manualPending_iff]
  rfl

/-! ### The most urgent source (R151) -/

/-- Of the sources in `l`, `n` has the highest level, and the lowest number of those with that level. -/
def Attention.MostUrgent (a : Attention) (l : List Nat) (n : Nat) : Prop :=
  n ∈ l ∧ ∀ m ∈ l, a.level m ≤ a.level n ∧ (a.level m = a.level n → n ≤ m)

theorem Attention.mostUrgent_pair (a : Attention) {b n : Nat} (h : b < n) : a.MostUrgent [b, n] (a.urgent b n) := by
  unfold Attention.urgent
  split
  · next hn => simp [Attention.MostUrgent]; omega
  · next hn => simp [Attention.MostUrgent]; omega

/-- The most urgent of a list may stand in for the sources it was chosen from. -/
theorem Attention.MostUrgent.append {a : Attention} {l k : List Nat} {b n : Nat} (hb : a.MostUrgent l b)
    (hn : a.MostUrgent (b :: k) n) : a.MostUrgent (l ++ k) n := by
  obtain ⟨hbl, hbest⟩ := hb
  obtain ⟨hnk, htop⟩ := hn
  obtain ⟨hle, heq⟩ := htop b List.mem_cons_self
  refine ⟨?_, fun m hm => ?_⟩
  · rcases List.mem_cons.mp hnk with rfl | hk
    · exact List.mem_append_left _ hbl
    · exact List.mem_append_right _ hk
  · rcases List.mem_append.mp hm with hm | hm
    · obtain ⟨hmle, hmeq⟩ := hbest m hm
      exact ⟨hmle.trans hle, fun h => (heq (by omega)).trans (hmeq (by omega))⟩
    · exact htop m (List.mem_cons_of_mem _ hm)

/-- A fold over sources in rising order finds the most urgent one. -/
theorem Attention.foldl_urgent (a : Attention) (l : List Nat) (b : Nat) (h : (b :: l).Pairwise (· < ·)) :
    a.MostUrgent (b :: l) (l.foldl a.urgent b) := by
  induction l generalizing b with
  | nil => simp [Attention.MostUrgent]
  | cons n l ih =>
    obtain ⟨hb, hnl⟩ := List.pairwise_cons.mp h
    obtain ⟨hn, hl⟩ := List.pairwise_cons.mp hnl
    refine (a.mostUrgent_pair (hb n List.mem_cons_self)).append (k := l) (ih _ (List.pairwise_cons.mpr ⟨fun m hm => ?_, hl⟩))
    unfold Attention.urgent
    split
    · exact hn m hm
    · exact hb m (List.mem_cons_of_mem _ hm)

/-! ### The attention word (R151, R161) -/

/-- The sources considered for the attention word, in number order. -/
def State.consideredSources (s : State) : List Nat :=
  sourceNumbers.filter fun n => s.sourcePending n && decide (0 < s.attn.level n)

theorem State.mem_consideredSources {s : State} {n : Nat} : n ∈ s.consideredSources ↔ s.considered n := by
  have hnumbers : n ∈ sourceNumbers ↔ 1 ≤ n ∧ n ≤ 10 := by
    simp only [sourceNumbers, List.mem_cons, List.not_mem_nil, or_false]
    omega
  simp [State.consideredSources, State.considered, hnumbers, and_assoc]

theorem State.attentionSource_eq (s : State) : s.attentionSource = s.consideredSources.foldl s.attn.urgent 0 := rfl

/-- Number 0, from which the fold begins, is below every source and has level 0. -/
theorem State.attentionSource_mostUrgent (s : State) :
    s.attn.MostUrgent (0 :: s.consideredSources) s.attentionSource := by
  refine s.attn.foldl_urgent _ 0 (List.pairwise_cons.mpr ⟨fun m hm => ?_, List.Pairwise.filter _ (by decide)⟩)
  obtain ⟨hpos, -⟩ := State.mem_consideredSources.mp hm
  exact hpos

/-- Where any source is considered, the one named is considered too. -/
theorem State.attentionSource_considered {s : State} {m : Nat} (hm : s.considered m) : s.considered s.attentionSource := by
  obtain ⟨hmem, htop⟩ := s.attentionSource_mostUrgent
  rcases List.mem_cons.mp hmem with h0 | hmem
  · obtain ⟨hle, -⟩ := htop m (List.mem_cons_of_mem _ (State.mem_consideredSources.mpr hm))
    obtain ⟨-, -, -, hlevel⟩ := hm
    rw [h0] at hle
    exact absurd (hlevel.trans_le hle) (Nat.lt_irrefl 0)
  · exact State.mem_consideredSources.mp hmem

theorem State.attentionWord_of_none {s : State} (h : ∀ n, ¬s.considered n) : s.attentionWord = 0 := by
  have hnone : s.consideredSources = [] :=
    List.eq_nil_iff_forall_not_mem.mpr fun n hn => h n (State.mem_consideredSources.mp hn)
  have hsource : s.attentionSource = 0 := by rw [State.attentionSource_eq, hnone]; rfl
  have hlevel : s.attn.level 0 = 0 := rfl
  rw [State.attentionWord, hsource, hlevel]
  rfl

theorem State.attentionWord_fields (s : State) :
    holdsFields s.attentionWord [(0, 4, s.attentionSource), (8, 4, s.attn.level s.attentionSource)] :=
  holdsFields_of_packed (by simp [packed, State.attentionWord]) (by simp [Layout, Apart])

/-- Settles O4: the source that the fold finds is the most urgent of those considered, if there are any. -/
theorem attentionWordNamesMostUrgent : Obligations.AttentionWordNamesMostUrgent := by
  unfold Obligations.AttentionWordNamesMostUrgent
  intro s _
  by_cases h : ∃ n, s.considered n
  · obtain ⟨n, hn⟩ := h
    obtain ⟨-, htop⟩ := s.attentionSource_mostUrgent
    exact .inr ⟨s.attentionSource, State.attentionSource_considered hn, ⟨_, rfl, s.attentionWord_fields⟩,
      fun m hm => htop m (List.mem_cons_of_mem _ (State.mem_consideredSources.mpr hm))⟩
  · have hnone : ∀ n, ¬s.considered n := not_exists.mp h
    exact .inl ⟨hnone, congrArg some (State.attentionWord_of_none hnone)⟩

end Sys2Proof.Machine
end

section
/-! The completion queue and its port (R143 to R145, R161): O33. -/

namespace Sys2Proof.Machine

/-! ### A record joins the queue (R143) -/

/-- Records of other faders are passed over. -/
theorem writeRecord_append (c : Completion) {before : List Completion} (h : ∀ d ∈ before, d.fader ≠ c.fader)
    (q : List Completion) : writeRecord c (before ++ q) = before ++ writeRecord c q := by
  induction before with
  | nil => rfl
  | cons d rest ih =>
    obtain ⟨hd, hrest⟩ := List.forall_mem_cons.mp h
    rw [List.cons_append, writeRecord, if_neg hd, ih hrest, List.cons_append]

/-! ### The reads of the port (R144, R145) -/

theorem State.openHead_nil {s : State} (h : s.completions = []) : s.openHead = s := by
  rw [State.openHead, h]

theorem State.openHead_cons {s : State} {c : Completion} {rest : List Completion} (h : s.completions = c :: rest) :
    s.openHead = { s with completions := { c with opened := true } :: rest } := by
  rw [State.openHead, h]

theorem State.takeHead_nil {s : State} (h : s.completions = []) : s.takeHead = s := by
  rw [State.takeHead, h]

theorem State.takeHead_cons {s : State} {c : Completion} {rest : List Completion} (h : s.completions = c :: rest) :
    s.takeHead = { s with completions := if c.opened then rest else c :: rest } := by
  simp only [State.takeHead, h]
  split
  · rfl
  · rw [← h]

/-- What a read of port word A answers: the word on the bus, and then the head opened. -/
theorem State.answers_portARead {s t : State} (hr : s.bus.inReset = false)
    (h : State.openHead { s with bus := { s.bus with readData := Lanes.full s.portAWord } } = t) :
    s.answers .portARead t :=
  congrArg State.done ((State.readWord_live hr (w := .portA) rfl _).trans h)

/-- What a read of port word B answers: the word on the bus, and then an opened head removed. -/
theorem State.answers_portBRead {s t : State} (hr : s.bus.inReset = false)
    (h : State.takeHead { s with bus := { s.bus with readData := Lanes.full s.portBWord } } = t) :
    s.answers .portBRead t :=
  congrArg State.done ((State.readWord_live hr (w := .portB) rfl _).trans h)

/-! ### The words of the port (R144, R145, R161) -/

theorem State.portWords_nil {s : State} (h : s.completions = []) : s.portAWord = 0 ∧ s.portBWord = 0 := by
  simp [State.portAWord, State.portBWord, h]

theorem State.portAWord_fields {s : State} {c : Completion} {rest : List Completion} (h : s.completions = c :: rest) :
    holdsFields s.portAWord [(0, 6, c.fader.val), (8, 4, c.outcome.code), (12, 2, c.cause.code), (14, 2, c.cls.code),
      (16, 1, c.repeated.toNat), (17, 1, c.marks.late.toNat), (18, 1, c.marks.undo.toNat), (31, 1, 1)] :=
  holdsFields_of_packed (by simp [packed, State.portAWord, h, putFlag, BitVec.or_assoc]) (by simp [Layout, Apart])

theorem State.portBWord_fields {s : State} {c : Completion} {rest : List Completion} (h : s.completions = c :: rest) :
    holdsFields s.portBWord [(0, 16, c.tag.toNat), (16, 10, c.final), (31, 1, c.opened.toNat)] :=
  holdsFields_of_packed (by simp [packed, State.portBWord, h, putFlag, BitVec.or_assoc]) (by simp [Layout, Apart])

/-- Settles O33: the port on the empty queue and on a head, and a record's place behind the records of other faders. -/
theorem completionQueueAndPort : Obligations.CompletionQueueAndPort := by
  unfold Obligations.CompletionQueueAndPort
  refine ⟨fun s hr => ⟨fun h => ?empty, fun c rest h => ?head⟩, fun c before after old h => ⟨fun hold => ?inPlace, ?joins⟩⟩
  case empty =>
    obtain ⟨hA, hB⟩ := State.portWords_nil h
    have hopen := State.answers_portARead hr (State.openHead_nil h)
    have htake := State.answers_portBRead hr (State.takeHead_nil h)
    rw [hA] at hopen
    rw [hB] at htake
    exact ⟨hopen, htake⟩
  case head =>
    exact ⟨s.portAWord, s.portBWord, State.answers_portARead hr (State.openHead_cons h), State.portAWord_fields h, rfl, rfl,
      State.answers_portBRead hr (State.takeHead_cons h), State.portBWord_fields h⟩
  case inPlace => rw [writeRecord_append c h, writeRecord, if_pos hold]
  case joins => simpa [writeRecord] using writeRecord_append c h []

end Sys2Proof.Machine
end

section
/-! The bus form of a command and the command of a bus access, each from the other (R157, R162, section 12.5): O6. -/

namespace Sys2Proof.Machine

/-! ### The commands of a command word -/

/-- A code that its word does not list is an UNKNOWN_COMMAND (R162). -/
theorem commandOf_unlisted {cw : CommandWord} {code : Byte} (h : cw.lists code = false) (u : UpperLanes) :
    commandOf cw code u = some (.unknownCommand cw code u) := by
  cases cw with
  | acknowledge =>
    have hten : ¬code.toNat ≤ 10 := by simpa [CommandWord.lists] using h
    have hcode : code ≠ 0 := by
      rintro rfl
      exact hten (by decide)
    rw [commandOf, if_neg hcode]
    exact if_neg hten
  | _ =>
    simp only [CommandWord.lists, Bool.or_eq_false_iff, beq_eq_false_iff_ne] at h
    simp only [commandOf, h, if_false]

theorem commandOf_acknowledge {n : Byte} (hn : n ≠ 0) (hten : n.toNat ≤ 10) (u : UpperLanes) :
    commandOf .acknowledge n u = some (.acknowledge n u) := by
  rw [commandOf, if_neg hn]
  exact if_pos hten

/-- A command that a code is carries that code in lane 0 of its word, and is well-formed; the no-command code is none. -/
theorem commandOf_some {cw : CommandWord} {code : Byte} {u : UpperLanes} {c : Instr} (h : commandOf cw code u = some c) :
    code ≠ 0 ∧ busForm c = some (.command cw, u.withCode code) ∧ c.wellFormed = true := by
  have hcode : code ≠ 0 := by
    rintro rfl
    exact nomatch h
  refine ⟨hcode, ?_⟩
  cases hl : cw.lists code with
  | false =>
    cases (commandOf_unlisted hl u).symm.trans h
    exact ⟨rfl, by rw [Instr.wellFormed, hl]; rfl⟩
  | true =>
    cases cw with
    | acknowledge =>
      have hten : code.toNat ≤ 10 := by simpa [CommandWord.lists] using hl
      cases (commandOf_acknowledge hcode hten u).symm.trans h
      exact ⟨rfl, by simpa [Instr.wellFormed, hten] using hcode⟩
    | runControl =>
      simp only [CommandWord.lists, Bool.or_eq_true, beq_iff_eq, hcode, false_or] at hl
      rcases hl with (rfl | rfl) | rfl <;> cases h <;> exact ⟨rfl, rfl⟩
    | faderCommand | recallCommit =>
      simp only [CommandWord.lists, Bool.or_eq_true, beq_iff_eq, hcode, false_or] at hl
      rcases hl with rfl | rfl <;> cases h <;> exact ⟨rfl, rfl⟩
    | cueArm | cueCancel | taperCommit | scaleCommit =>
      simp only [CommandWord.lists, Bool.or_eq_true, beq_iff_eq, hcode, false_or] at hl
      subst hl
      cases h
      exact ⟨rfl, rfl⟩

/-! ### Accesses -/

/-- A code other than 0 is written in lane 0. -/
theorem UpperLanes.withCode_of_lane0 {l : Lanes} (h : l.lane0.getD 0 ≠ 0) :
    UpperLanes.withCode ⟨l.lane1, l.lane2, l.lane3⟩ (l.lane0.getD 0) = l := by
  obtain ⟨_ | code, l1, l2, l3⟩ := l
  · exact absurd rfl h
  · rfl

/-- The access of a well-formed bus command is that command (section 12.5, R157). -/
theorem writeOf_of_busForm {c : Instr} {word : ImageWord} {l : Lanes} (hwf : c.wellFormed = true)
    (h : busForm c = some (word, l)) : writeOf word l = some c := by
  cases c with
  | acknowledge n u =>
    cases h
    obtain ⟨hn, hten⟩ : n ≠ 0 ∧ n.toNat ≤ 10 := by simpa [Instr.wellFormed] using hwf
    exact commandOf_acknowledge hn hten u
  | unknownCommand cw code u =>
    cases h
    have hl : cw.lists code = false := by simpa [Instr.wellFormed] using hwf
    exact commandOf_unlisted hl u
  | reset | resetRelease | frameExpiry | cueFiring | intakeTimeout | moveTimeout | parkTimeout | holdExpiry
  | homeLimitExceeded | releasingEnd | quietIntervalEnd | missedFrame | senseFrame | slotGrant | preEmption | wordWrite
  | presentGainRead | portARead | portBRead | movedWordRead | readout2Read => exact nomatch h
  | _ => cases h; rfl

/-- The command of an access is that access, and with a lane written it is well-formed (section 12.5, R156, R157). -/
theorem busForm_of_writeOf {word : ImageWord} {l : Lanes} {c : Instr} (h : writeOf word l = some c) :
    busForm c = some (word, l) ∧ (l.nonEmpty = true → c.wellFormed = true) := by
  cases word with
  | command cw =>
    obtain ⟨hcode, hform, hwf⟩ := commandOf_some h
    rw [UpperLanes.withCode_of_lane0 hcode] at hform
    exact ⟨hform, fun _ => hwf⟩
  | controlAlias k f => cases k <;> cases h <;> exact ⟨rfl, id⟩
  | target | control | intake | surfaceTime | slotLimit | quiet | setup | staging => cases h; exact ⟨rfl, id⟩
  | _ => exact nomatch h

/-- Settles O6: the codes of a command word by what the word lists, every other word by its own command. -/
theorem busWritesDecode : Obligations.BusWritesDecode := by
  unfold Obligations.BusWritesDecode
  exact ⟨fun _ _ _ => writeOf_of_busForm, fun _ _ _ => busForm_of_writeOf⟩

end Sys2Proof.Machine
end

section
/-! Where the words of the image are found (section 12.1, 12.2, 12.4), and that a write at any byte of a word does what the
word's own command does (R154, R155): O7. -/

namespace Sys2Proof.Machine

/-! ### The words at their offsets -/

/-- A word is found at an aligned offset inside the 64 KiB of the image. -/
structure ImageWord.PlacedAt (w : ImageWord) (offset : Nat) : Prop where
  aligned : offset % 4 = 0
  inside : offset + 4 ≤ 65536
  found : wordAt offset = some w

theorem index?_val {n : Nat} (i : Fin n) : index? n i.val = some i := dif_pos i.isLt

/-- The words of a fader block (section 12.2). -/
theorem ImageWord.placedAt_fader {w : ImageWord} {f : FaderId} {k : Nat} (hk : k < 16) (h : faderWordAt f k = some w) :
    w.PlacedAt (faderOffset f (4 * k)) := by
  have hindex : faderOffset f (4 * k) / 4 = 0x400 + (16 * f.val + k) := by unfold faderOffset; omega
  have hblock : (16 * f.val + k) / 16 = f.val := by omega
  have hword : (16 * f.val + k) % 16 = k := by omega
  refine ⟨by unfold faderOffset; omega, by unfold faderOffset; omega, ?_⟩
  simp only [wordAt, hindex, Nat.add_sub_cancel_left, hblock, hword, index?_val, Option.bind_some, h]
  iterate 7 rw [if_neg (by omega)]
  exact if_pos (by omega)

/-- The words of a meter block (section 12.4). -/
theorem ImageWord.placedAt_meter {w : ImageWord} {m : MeterId} {k : Nat} (hk : k < 8) (h : meterWordAt m k = some w) :
    w.PlacedAt (meterOffset m (4 * k)) := by
  have hindex : meterOffset m (4 * k) / 4 = 0x800 + (8 * m.val + k) := by unfold meterOffset; omega
  have hblock : (8 * m.val + k) / 8 = m.val := by omega
  have hword : (8 * m.val + k) % 8 = k := by omega
  refine ⟨by unfold meterOffset; omega, by unfold meterOffset; omega, ?_⟩
  simp only [wordAt, hindex, Nat.add_sub_cancel_left, hblock, hword, index?_val, Option.bind_some, h]
  iterate 8 rw [if_neg (by omega)]

/-- A word of the control block's tables, by its number there (section 12.1). -/
theorem ImageWord.placedAt_table {n base : Nat} {word : Fin n → ImageWord} (haligned : base % 4 = 0)
    (hinside : base + 4 * n ≤ 65536) (h : ∀ i, wordAt (base + 4 * i.val) = some (word i)) (i : Fin n) :
    (word i).PlacedAt (base + 4 * i.val) :=
  ⟨by omega, by omega, h i⟩

/-- Every named word is found at its offset (section 12.1, 12.2, 12.4). -/
theorem ImageWord.placed (w : ImageWord) : w.PlacedAt w.offset := by
  cases w with
  | command cw =>
    cases cw with
    | faderCommand f => exact placedAt_fader (k := 15) (by decide) rfl
    | _ => exact ⟨rfl, by decide, rfl⟩
  | setup w =>
    cases w with
    | faderA f => exact placedAt_fader (k := 13) (by decide) rfl
    | faderB f => exact placedAt_fader (k := 14) (by decide) rfl
    | meterA m => exact placedAt_meter (k := 1) (by decide) rfl
    | meterB m => exact placedAt_meter (k := 2) (by decide) rfl
    | meterC m => exact placedAt_meter (k := 3) (by decide) rfl
    | _ => exact ⟨rfl, by decide, rfl⟩
  | staging w =>
    cases w with
    | taperPoint k => exact placedAt_table (word := fun k => .staging (.taperPoint k)) rfl (by decide) (by decide) k
    | scaleThreshold i => exact placedAt_table (word := fun i => .staging (.scaleThreshold i)) rfl (by decide) (by decide) i
    | recallPair j => exact placedAt_table (word := fun j => .staging (.recallPair j)) rfl (by decide) (by decide) j
    | _ => exact ⟨rfl, by decide, rfl⟩
  | slotStatus i => exact placedAt_table (word := .slotStatus) rfl (by decide) (by decide) i
  | bayStatus b => exact placedAt_table (word := .bayStatus) rfl (by decide) (by decide) b
  | target f => exact placedAt_fader (k := 0) (by decide) rfl
  | presentGain f => exact placedAt_fader (k := 1) (by decide) rfl
  | presentPosition f => exact placedAt_fader (k := 2) (by decide) rfl
  | faderState f => exact placedAt_fader (k := 3) (by decide) rfl
  | pendingA f => exact placedAt_fader (k := 4) (by decide) rfl
  | pendingB f => exact placedAt_fader (k := 5) (by decide) rfl
  | targetPosition f => exact placedAt_fader (k := 6) (by decide) rfl
  | calibration f => exact placedAt_fader (k := 7) (by decide) rfl
  | faderTag f => exact placedAt_fader (k := 8) (by decide) rfl
  | control f => exact placedAt_fader (k := 9) (by decide) rfl
  | controlAlias kind f =>
    cases kind with
    | set => exact placedAt_fader (k := 10) (by decide) rfl
    | clear => exact placedAt_fader (k := 11) (by decide) rfl
    | toggle => exact placedAt_fader (k := 12) (by decide) rfl
  | intake m => exact placedAt_meter (k := 0) (by decide) rfl
  | readout1 m => exact placedAt_meter (k := 4) (by decide) rfl
  | readout2 m => exact placedAt_meter (k := 5) (by decide) rfl
  | moved half => cases half <;> exact ⟨rfl, by decide, rfl⟩
  | _ => exact ⟨rfl, by decide, rfl⟩

/-- An access at any of a word's four bytes reaches the word. -/
theorem ImageWord.wordAt_byte (w : ImageWord) {k : Nat} (hk : k < 4) : wordAt (w.offset + k) = some w := by
  have haligned := w.placed.aligned
  have hindex : (w.offset + k) / 4 = w.offset / 4 := by omega
  have hsame : wordAt (w.offset + k) = wordAt w.offset := by simp only [wordAt, hindex]
  exact hsame.trans w.placed.found

/-! ### A write at a byte of a word -/

/-- The bytes of a word have bus addresses of 32 bits, the first aligned. -/
theorem State.addressOf_bounds (s : State) (w : ImageWord) :
    s.addressOf w % 4 = 0 ∧ s.addressOf w + 4 ≤ s.imageBase + 65536 ∧ s.addressOf w + 4 ≤ 2 ^ 32 := by
  obtain ⟨haligned, hinside, -⟩ := w.placed
  have hsel := s.bus.imageSel.isLt
  unfold State.addressOf State.imageBase
  omega

/-- Outside RESET a write at any byte of a word is a write of the word, and under RESET one that passes to its address. -/
theorem State.writeAt_byte (s : State) (w : ImageWord) (l : Lanes) {k : Nat} (hk : k < 4) :
    s.writeAt (BitVec.ofNat 32 (s.addressOf w + k)) l = s.onBus w l fun s => s.writeWord w l := by
  obtain ⟨haligned, hinside, hsmall⟩ := s.addressOf_bounds w
  have haddr : (BitVec.ofNat 32 (s.addressOf w + k)).toNat = s.addressOf w + k :=
    (BitVec.toNat_ofNat _ _).trans (Nat.mod_eq_of_lt (by omega))
  cases hr : s.bus.inReset with
  | true =>
    have hword : s.addressOf w + k - (s.addressOf w + k) % 4 = s.addressOf w := by omega
    rw [State.writeAt_reset hr, State.onBus_reset hr, haddr, hword]
    rfl
  | false =>
    have hoffset : s.addressOf w + k - s.imageBase = w.offset + k := by unfold State.addressOf; omega
    have hin : s.imageBase ≤ s.addressOf w + k ∧ s.addressOf w + k < s.imageBase + 65536 :=
      ⟨by unfold State.addressOf; omega, by omega⟩
    have hfound : s.wordAtAddress (s.addressOf w + k) = some w := by
      simp [State.wordAtAddress, hr, hin, hoffset, w.wordAt_byte hk]
    rw [State.onBus_live hr, State.writeAt, haddr, hfound]

/-- A bus command does what a write to its word does (R155, R157). -/
theorem exec_busForm {c : Instr} {word : ImageWord} {l : Lanes} (h : busForm c = some (word, l)) (s : State) :
    exec c s = (s.onBus word l fun s => s.writeWord word l).done := by
  cases hr : s.bus.inReset with
  | true =>
    obtain ⟨take, htake⟩ := exec_onBus h s
    rw [htake, State.onBus_reset hr, State.onBus_reset hr]
  | false =>
    rw [State.onBus_live hr]
    cases c with
    | stop | resume | restart | home | release | cueArm | cueCancel | commit | undo | taperCommit | scaleCommit
    | unknownCommand => cases h; exact congrArg State.done (State.onBus_live hr ..)
    | acknowledge n u =>
      cases h
      have htake : s.takeCommand .acknowledge n u = s.acknowledge n.toNat := s.takeCommand_acknowledge n u
      exact congrArg State.done ((State.onBus_live hr ..).trans
        (congrArg (fun t => State.passWrite t (.command .acknowledge) (u.withCode n)) htake.symm))
    | reset | resetRelease | frameExpiry | cueFiring | intakeTimeout | moveTimeout | parkTimeout | holdExpiry
    | homeLimitExceeded | releasingEnd | quietIntervalEnd | missedFrame | senseFrame | slotGrant | preEmption | wordWrite
    | presentGainRead | portARead | portBRead | movedWordRead | readout2Read => exact nomatch h
    | _ => cases h; rfl

/-- Settles O7: the write and the command are both the write of the word. -/
theorem wordWriteActsAsItsRow : Obligations.WordWriteActsAsItsRow := by
  unfold Obligations.WordWriteActsAsItsRow
  intro c word l s k hk h
  exact (congrArg State.done (s.writeAt_byte word l hk)).trans (exec_busForm h s).symm

end Sys2Proof.Machine
end

section
/-! What stands outside the part: memory, which only a write on the bus changes, and the commands that wait (R154, R160). What the
part's blocks take on a step leaves both. -/

namespace Sys2Proof.Machine

/-- From `s` to `t` memory and the commands that wait are as they were. -/
structure State.SameOutside (s t : State) : Prop where
  mem : t.mem = s.mem
  pending : t.pending = s.pending

theorem State.SameOutside.refl (s : State) : s.SameOutside s :=
  ⟨rfl, rfl⟩

theorem State.SameOutside.trans {s t u : State} (h : s.SameOutside t) (k : t.SameOutside u) : s.SameOutside u :=
  ⟨k.mem.trans h.mem, k.pending.trans h.pending⟩

theorem State.SameOutside.ite {s a b : State} {p : Prop} [Decidable p] (ha : s.SameOutside a) (hb : s.SameOutside b) :
    s.SameOutside (if p then a else b) := by
  split <;> assumption

theorem State.SameOutside.foldl {α : Type} {act : State → α → State} (h : ∀ (t : State) a, t.SameOutside (act t a))
    (l : List α) (s : State) : s.SameOutside (l.foldl act s) := by
  induction l generalizing s with
  | nil => exact .refl s
  | cons a rest ih => exact (h s a).trans (ih _)

theorem MotionFrame.sameOutside {s t : State} (h : MotionFrame s t) : s.SameOutside t :=
  ⟨h.mem, h.pending⟩

/-! ### Bay links -/

theorem State.modBay_sameOutside (s : State) (b : BayId) (g : Bay → Bay) : s.SameOutside (s.modBay b g) :=
  ⟨rfl, rfl⟩

theorem State.followed_frame (s arrival : State) (b : BayId) (bytes : List Byte) :
    MotionFrame s (s.followed arrival b bytes) :=
  (s.attended_frame arrival b bytes).trans (.forFitted b _ (fun _ _ => .movedTest ..) _)

theorem State.takeFrame_sameOutside (s arrival : State) (b : BayId) (bytes : List Byte) :
    s.SameOutside (s.takeFrame arrival b bytes) := by
  have hlinks : s.LinkFrame (s.takeFrame arrival b bytes) :=
    (((((s.withBay_linkFrame b _ _).trans (State.refit_frame _ b bytes)).trans (MotionFrame.arbitrate _).linkFrame).trans
      (State.takeSupply_frame _ b bytes)).trans (State.positioned_frame _ b bytes).linkFrame).trans
      (State.followed_frame _ arrival b bytes).linkFrame
  exact ⟨hlinks.mem, (s.takeFrame_sameExpiry arrival b bytes).pending⟩

theorem State.joinBay_sameOutside (s : State) (b : BayId) (bytes : List Byte) : s.SameOutside (s.joinBay b bytes) :=
  (s.modBay_sameOutside b _).trans
    ((MotionFrame.forFitted b (fun u p => u.enterFader (faderAt b p)) (fun _ _ => .enterFader ..) _).trans
      (.raise ..)).sameOutside

theorem State.takeGoodFrame_sameOutside (s : State) (b : BayId) (bytes : List Byte) :
    s.SameOutside (s.takeGoodFrame b bytes) := by
  unfold State.takeGoodFrame
  dsimp only
  split
  · exact s.modBay_sameOutside b _
  · exact s.modBay_sameOutside b _
  · exact ((s.joinBay_sameOutside b bytes).trans (State.takeFrame_sameOutside ..)).ite (s.modBay_sameOutside b _)
  · exact s.takeFrame_sameOutside s b bytes

theorem State.receiveFrame_sameOutside (s : State) (b : BayId) (bytes : List Byte) :
    s.SameOutside (s.receiveFrame b bytes) :=
  ((s.modBay_sameOutside b _).trans (State.takeGoodFrame_sameOutside _ b bytes)).ite (.refl s)

theorem State.loseBay_sameOutside (s : State) (b : BayId) : s.SameOutside (s.loseBay b) :=
  ((MotionFrame.forFitted b (fun t p => t.loseFader (faderAt b p)) (fun _ _ => .loseFader ..) s).sameOutside.trans
    (State.modBay_sameOutside _ b _)).trans ((MotionFrame.raise ..).trans (.arbitrate _)).sameOutside

theorem State.missFrame_sameOutside (s : State) (b : BayId) : s.SameOutside (s.missFrame b) := by
  have hzero : s.SameOutside (s.zeroDrives b) := (MotionFrame.mapSlots ..).sameOutside
  unfold State.missFrame
  dsimp only
  split
  · exact hzero
  · exact hzero
  · exact hzero.trans (State.modBay_sameOutside _ b _)
  · exact (hzero.trans (State.loseBay_sameOutside _ b)).ite (hzero.trans (State.modBay_sameOutside _ b _))

theorem State.closeWindow_sameOutside (s : State) (b : BayId) : s.SameOutside (s.closeWindow b) :=
  ((s.modBay_sameOutside b _).trans (State.missFrame_sameOutside _ b)).ite (s.modBay_sameOutside b _)

theorem State.sendFrame_sameOutside (s : State) (b : BayId) : s.SameOutside (s.sendFrame b) := by
  unfold State.sendFrame
  exact (s.countFrame_frame b).sameOutside.trans (State.modBay_sameOutside _ b _)

/-! ### Cues, recalls and meters -/

theorem State.fireCues_sameOutside (s : State) (l : List Cue) : s.SameOutside (s.fireCues l) :=
  ⟨(s.fireCues_frame l).mem, (s.fireCues_frame l).pending⟩

theorem State.tickSurface_sameOutside (s : State) : s.SameOutside s.tickSurface :=
  ⟨rfl, rfl⟩

theorem State.setAdvance_sameOutside (s : State) (a : AdvanceStage) : s.SameOutside (s.setAdvance a) :=
  ⟨rfl, rfl⟩

theorem State.fireStage_sameOutside (s : State) : s.SameOutside s.fireStage :=
  ((s.fireCues_sameOutside _).trans (State.setAdvance_sameOutside ..)).ite
    ((s.fireCues_sameOutside _).trans (State.setAdvance_sameOutside ..))

theorem State.cueEvent_sameOutside (s : State) : s.SameOutside s.cueEvent := by
  unfold State.cueEvent
  split
  · exact .refl s
  · exact s.fireStage_sameOutside
  · exact (State.SameOutside.refl s).ite (s.tickSurface_sameOutside.trans s.tickSurface.fireStage_sameOutside)

theorem State.advanceShare_sameOutside (s : State) : s.SameOutside s.advanceShare := by
  unfold State.advanceShare
  split
  · exact s.tickSurface_sameOutside.trans (State.fireCues_sameOutside ..)
  · exact s.fireCues_sameOutside _
  · exact .refl s

theorem State.intake_sameOutside (s : State) (m : MeterId) (x : Int) : s.SameOutside (s.intake m x) :=
  .ite ⟨rfl, rfl⟩ ⟨rfl, rfl⟩

theorem State.meterExpiry_sameOutside (s : State) (m : MeterId) : s.SameOutside (s.meterExpiry m) :=
  .ite ⟨rfl, rfl⟩ ⟨rfl, rfl⟩

/-! ### The frame expiry -/

theorem State.tickCounters_sameOutside (s : State) : s.SameOutside s.tickCounters := by
  have hslots : s.SameOutside s.tickSlots := by constructor <;> simp only [State.tickSlots]
  have hquiet : ∀ t : State, t.SameOutside t.tickQuiet := fun _ => ⟨rfl, rfl⟩
  exact (hslots.trans (MotionFrame.mapFaders ..).sameOutside).trans (hquiet _)

theorem State.meterShare_sameOutside (s : State) (m : MeterId) : s.SameOutside (s.meterShare m) :=
  (State.SameOutside.refl s).ite (s.meterExpiry_sameOutside m)

theorem State.endExpiry_sameOutside (s : State) : s.SameOutside s.endExpiry :=
  ⟨rfl, rfl⟩

theorem State.expire_sameOutside (s : State) : s.SameOutside s.expire := by
  have h1 := s.tickCounters_sameOutside
  have h2 := h1.trans (.foldl State.closeWindow_sameOutside (List.finRange 6) _)
  have h3 := h2.trans (.foldl (fun t i => (MotionFrame.judgeSlot t i).sameOutside) (List.finRange 16) _)
  have h4 := h3.trans (.foldl (fun t f => (MotionFrame.judgeGuard t f).sameOutside) (List.finRange 48) _)
  have h5 := h4.trans (State.advanceShare_sameOutside _)
  have h6 := h5.trans (.foldl State.meterShare_sameOutside (List.finRange 48) _)
  have h7 := h6.trans (.foldl State.sendFrame_sameOutside (List.finRange 6) _)
  exact h7.trans (State.endExpiry_sameOutside _)

/-! ### Command words -/

theorem State.refuse_sameOutside (s : State) (r : RefusalReason) : s.SameOutside (s.refuse r) :=
  ⟨rfl, rfl⟩

theorem State.stopCommand_sameOutside (s : State) : s.SameOutside s.stopCommand := by
  unfold State.stopCommand
  split
  · exact .refl s
  · exact ⟨(MotionFrame.stopMotion _).mem, (MotionFrame.stopMotion _).pending⟩

theorem State.restartCommand_sameOutside (s : State) : s.SameOutside s.restartCommand := by
  constructor <;> simp only [State.restartCommand, State.mapFaders]

theorem State.homeCommand_sameOutside (s : State) (f : FaderId) : s.SameOutside (s.homeCommand f) := by
  rcases s.homeCommand_frame f with h | h
  · rw [h]; exact s.refuse_sameOutside _
  · exact h.sameOutside

theorem State.arm_sameOutside (s : State) : s.SameOutside s.arm := by
  unfold State.arm
  dsimp only
  split
  · refine (s.refuse_sameOutside _).ite ?_
    split
    · exact s.refuse_sameOutside _
    · exact .ite ⟨rfl, rfl⟩ (s.refuse_sameOutside _)
  · exact s.refuse_sameOutside _

theorem State.commitRecall_sameOutside (s : State) (count ramp : Nat) : s.SameOutside (s.commitRecall count ramp) := by
  unfold State.commitRecall
  split
  · exact s.refuse_sameOutside _
  · exact ⟨(MotionFrame.issueAll ..).mem, (MotionFrame.issueAll ..).pending⟩

theorem State.undoRecall_sameOutside (s : State) : s.SameOutside s.undoRecall := by
  unfold State.undoRecall
  split
  · exact s.refuse_sameOutside _
  · exact ⟨(MotionFrame.issueAll ..).mem, (MotionFrame.issueAll ..).pending⟩

theorem State.commitTaper_sameOutside (s : State) : s.SameOutside s.commitTaper := by
  unfold State.commitTaper
  split <;> exact ⟨rfl, rfl⟩

theorem State.commitScale_sameOutside (s : State) : s.SameOutside s.commitScale := by
  rw [State.commitScale_eq]
  exact .ite ⟨rfl, rfl⟩ (s.refuse_sameOutside _)

theorem State.acknowledge_sameOutside (s : State) (n : Nat) : s.SameOutside (s.acknowledge n) := by
  unfold State.acknowledge
  split
  · exact ⟨rfl, rfl⟩
  · exact (s.refuse_sameOutside _).ite (.refl s)

theorem State.takeCommand_sameOutside (s : State) (cw : CommandWord) (code : Byte) (u : UpperLanes) :
    s.SameOutside (s.takeCommand cw code u) := by
  have href := s.refuse_sameOutside .unknownCommand
  refine .ite (.refl s) ?_
  cases cw with
  | runControl => exact s.stopCommand_sameOutside.ite (.ite ⟨rfl, rfl⟩ (s.restartCommand_sameOutside.ite href))
  | faderCommand f =>
    exact (s.homeCommand_sameOutside f).ite ((MotionFrame.releaseCommand s f).sameOutside.ite href)
  | cueArm => exact s.arm_sameOutside.ite href
  | cueCancel => exact .ite ⟨rfl, rfl⟩ href
  | recallCommit => exact (s.commitRecall_sameOutside ..).ite (s.undoRecall_sameOutside.ite href)
  | taperCommit => exact s.commitTaper_sameOutside.ite href
  | scaleCommit => exact s.commitScale_sameOutside.ite href
  | acknowledge => exact s.acknowledge_sameOutside _

/-! ### What a step takes -/

theorem State.takeSetup_sameOutside (s : State) (w : SetupWord) (v : Word) : s.SameOutside (s.takeSetup w v) := by
  cases w <;> exact ⟨rfl, rfl⟩

theorem State.slotEvent_sameOutside (s : State) (i : SlotId) (due : Slot → Bool) : s.SameOutside (s.slotEvent i due) := by
  rcases MotionFrame.slotEvent s i due with h | h
  · rw [h]; exact .refl s
  · exact ⟨h.mem, h.pending⟩

theorem State.meterEvent_sameOutside (s : State) (m : MeterId) : s.SameOutside (s.meterEvent m) := by
  have hcount : ∀ t : State, t.SameOutside (t.countMeter m) := fun _ => ⟨rfl, rfl⟩
  unfold State.meterEvent
  exact ((s.meterExpiry_sameOutside m).trans (hcount _)).ite (.refl s)

theorem State.quietEvent_sameOutside (s : State) : s.SameOutside s.quietEvent := by
  unfold State.quietEvent
  exact .ite ⟨rfl, rfl⟩ (.refl s)

/-- A decision of the arbiter that may be none. -/
theorem State.getD_sameOutside {s : State} {o : Option State} (h : ∀ t, o = some t → MotionFrame s t) :
    s.SameOutside (o.getD s) := by
  cases o with
  | none => exact .refl s
  | some t => exact (h t rfl).sameOutside

theorem State.grantStep_sameOutside (s : State) : s.SameOutside (s.grantStep.getD s) :=
  State.getD_sameOutside fun _ h => .arbiterStep (by simp [State.arbiterStep, h])

theorem State.preemptStep_sameOutside (s : State) : s.SameOutside (s.preemptStep.getD s) :=
  State.getD_sameOutside fun _ h => by
    obtain ⟨_, _, _, _, -, -, -, -, -, rfl⟩ := MotionFrame.preemptStep_inv h
    exact (MotionFrame.endHold ..).trans (.grantTo ..)

/-- What the blocks take on a step leaves memory and the waiting commands as they are: the part begins no access of its own
(R160). -/
theorem State.Taken.sameOutside {s t : State} (h : s.Taken t) : s.SameOutside t := by
  cases h with
  | nothing => exact .refl s
  | reset => exact ⟨rfl, rfl⟩
  | expiry => exact s.expire_sameOutside
  | cues => exact s.cueEvent_sameOutside
  | meterTimeout m => exact s.meterEvent_sameOutside m
  | slotTimeout i due => exact s.slotEvent_sameOutside i due
  | guardEnd f => exact (MotionFrame.guardEvent s f).sameOutside
  | quietEnd => exact s.quietEvent_sameOutside
  | window b => exact (s.closeWindow_sameOutside b).ite (.refl s)
  | frame b bytes => exact s.receiveFrame_sameOutside b bytes
  | grant => exact s.grantStep_sameOutside
  | preemption => exact s.preemptStep_sameOutside
  | request r => exact (MotionFrame.accept s r).sameOutside
  | control f c => exact (MotionFrame.takeControl s f c).sameOutside
  | intake m v => exact s.intake_sameOutside m _
  | surface v => exact ⟨rfl, rfl⟩
  | slotLimit n => exact ⟨(MotionFrame.arbitrate _).mem, (MotionFrame.arbitrate _).pending⟩
  | quiet n => exact ⟨rfl, rfl⟩
  | setup w v => exact s.takeSetup_sameOutside w v
  | command cw code u => exact s.takeCommand_sameOutside cw code u
  | moved h => exact (MotionFrame.mapFaders ..).sameOutside
  | overRead m => exact ⟨rfl, rfl⟩

end Sys2Proof.Machine
end

section
/-! Every command completes; only a write on the bus changes memory, and nothing the waiting commands (R154, R160): O2. -/

namespace Sys2Proof.Machine

/-! ### Writes on the bus -/

theorem State.onBus_pending {s : State} {w : ImageWord} {l : Lanes} {take : State → State}
    (h : (take s).pending = s.pending) : (s.onBus w l take).pending = s.pending := by
  unfold State.onBus
  split
  · rfl
  · exact h

/-- What a write to a word takes leaves the waiting commands, and so does what it stores. -/
theorem State.writeWord_pending (s : State) (w : ImageWord) (l : Lanes) : (s.writeWord w l).pending = s.pending := by
  cases w with
  | target f => exact State.onBus_pending (State.Taken.request _).sameOutside.pending
  | control f => exact State.onBus_pending (State.Taken.control f _).sameOutside.pending
  | controlAlias k f => exact State.onBus_pending (State.Taken.control f _).sameOutside.pending
  | intake m => exact State.onBus_pending (State.Taken.intake m _).sameOutside.pending
  | surfaceTime => exact State.onBus_pending rfl
  | slotLimit => exact State.onBus_pending (State.Taken.slotLimit _).sameOutside.pending
  | quiet => exact State.onBus_pending rfl
  | setup w => exact State.onBus_pending (State.Taken.setup w _).sameOutside.pending
  | staging w => exact State.onBus_pending rfl
  | command cw => exact (State.Taken.command cw _ _).sameOutside.pending
  | _ => rfl

theorem State.writeAt_pending (s : State) (addr : BitVec 32) (l : Lanes) : (s.writeAt addr l).pending = s.pending := by
  unfold State.writeAt
  split
  · exact s.writeWord_pending _ l
  · rfl

/-! ### Events and reads -/

theorem State.unlessReset_sameOutside {s : State} {act : State → State} (h : s.Taken (act s)) :
    s.SameOutside (s.unlessReset act) :=
  (State.SameOutside.refl s).ite h.sameOutside

theorem State.readWord_sameOutside {s : State} {w : ImageWord} {act : State → State}
    (h : ∀ t : State, t.SameOutside (act t)) : s.SameOutside (s.readWord w act) :=
  .ite ⟨rfl, rfl⟩ ⟨(h _).mem, (h _).pending⟩

theorem State.openHead_sameOutside (s : State) : s.SameOutside s.openHead := by
  unfold State.openHead
  split <;> exact ⟨rfl, rfl⟩

theorem State.takeHead_sameOutside (s : State) : s.SameOutside s.takeHead := by
  unfold State.takeHead
  split
  · exact .refl s
  · exact .ite ⟨rfl, rfl⟩ (.refl s)

theorem State.releaseReset_sameOutside (s : State) (straps : BitVec 4) : s.SameOutside (s.releaseReset straps) :=
  .ite ⟨rfl, rfl⟩ (.refl s)

/-- A command that is no write on the bus changes neither memory nor the waiting commands (R160). -/
theorem exec_sameOutside {c : Instr} (hbus : busForm c = none) (hword : ∀ addr l, c ≠ .wordWrite addr l) (s : State) :
    ∃ u, exec c s = u.done ∧ s.SameOutside u := by
  cases c with
  | reset => exact ⟨_, rfl, State.Taken.reset.sameOutside⟩
  | resetRelease straps => exact ⟨_, rfl, s.releaseReset_sameOutside straps⟩
  | frameExpiry => exact ⟨_, rfl, State.unlessReset_sameOutside .expiry⟩
  | cueFiring => exact ⟨_, rfl, State.unlessReset_sameOutside .cues⟩
  | intakeTimeout m => exact ⟨_, rfl, State.unlessReset_sameOutside (.meterTimeout m)⟩
  | moveTimeout i | parkTimeout i | homeLimitExceeded i | holdExpiry i =>
    exact ⟨_, rfl, State.unlessReset_sameOutside (.slotTimeout i _)⟩
  | releasingEnd f => exact ⟨_, rfl, State.unlessReset_sameOutside (.guardEnd f)⟩
  | quietIntervalEnd => exact ⟨_, rfl, State.unlessReset_sameOutside .quietEnd⟩
  | missedFrame b => exact ⟨_, rfl, State.unlessReset_sameOutside (.window b)⟩
  | senseFrame b bytes => exact ⟨_, rfl, State.unlessReset_sameOutside (.frame b bytes)⟩
  | slotGrant => exact ⟨_, rfl, State.unlessReset_sameOutside .grant⟩
  | preEmption => exact ⟨_, rfl, State.unlessReset_sameOutside .preemption⟩
  | wordWrite addr l => exact absurd rfl (hword addr l)
  | presentGainRead f => exact ⟨_, rfl, State.readWord_sameOutside fun _ => ⟨rfl, rfl⟩⟩
  | portARead => exact ⟨_, rfl, State.readWord_sameOutside State.openHead_sameOutside⟩
  | portBRead => exact ⟨_, rfl, State.readWord_sameOutside State.takeHead_sameOutside⟩
  | movedWordRead half => exact ⟨_, rfl, State.readWord_sameOutside fun _ => (State.Taken.moved half).sameOutside⟩
  | readout2Read m => exact ⟨_, rfl, State.readWord_sameOutside fun _ => (State.Taken.overRead m).sameOutside⟩
  | _ => exact nomatch hbus

/-- Settles O2: a bus command and a WORD_WRITE by the write of the word, every other command by what its block takes. -/
theorem everyCommandCompletes : Obligations.EveryCommandCompletes := by
  unfold Obligations.EveryCommandCompletes
  intro c s
  by_cases hword : ∃ addr l, c = .wordWrite addr l
  · obtain ⟨addr, l, rfl⟩ := hword
    exact ⟨_, rfl, s.writeAt_pending addr l, fun _ h => absurd rfl (h addr l)⟩
  · cases hbus : busForm c with
    | none =>
      obtain ⟨u, hu, hsame⟩ := exec_sameOutside hbus (fun addr l h => hword ⟨addr, l, h⟩) s
      exact ⟨u.driveAttn, hu, hsame.pending, fun _ _ => hsame.mem⟩
    | some form => exact ⟨_, exec_busForm hbus s, State.onBus_pending (s.writeWord_pending ..), nofun⟩

end Sys2Proof.Machine
end

section
/-! Written lanes merge, and unwritten lanes of a pulse or of an aliased write's operand count 0 (R156, R157); an aliased write is
a write of the whole control word (R158): O9. -/

namespace Sys2Proof.Machine

/-! ### The lanes of a word -/

theorem getLsbD_eq_laneOf (v : Word) (i : Nat) : v.getLsbD i = (laneOf v (i / 8)).getLsbD (i % 8) := by
  rw [laneOf, BitVec.getLsbD_extractLsb', decide_eq_true (Nat.mod_lt i (by decide)), Bool.true_and, Nat.div_add_mod]

/-- A word made of four bytes has them in its lanes. -/
theorem laneOf_wordOfBytes (b0 b1 b2 b3 : Byte) :
    laneOf (wordOfBytes b0 b1 b2 b3) 0 = b0 ∧ laneOf (wordOfBytes b0 b1 b2 b3) 1 = b1 ∧
      laneOf (wordOfBytes b0 b1 b2 b3) 2 = b2 ∧ laneOf (wordOfBytes b0 b1 b2 b3) 3 = b3 := by
  have hlow : ∀ k, k < 3 → laneOf (wordOfBytes b0 b1 b2 b3) k = (b2 ++ (b1 ++ b0)).extractLsb' (8 * k) 8 := fun k hk =>
    BitVec.extractLsb'_append_eq_of_add_le (by omega)
  have hpair : ∀ k, k < 2 → laneOf (wordOfBytes b0 b1 b2 b3) k = (b1 ++ b0).extractLsb' (8 * k) 8 := fun k hk =>
    (hlow k (by omega)).trans (BitVec.extractLsb'_append_eq_of_add_le (by omega))
  exact ⟨(hpair 0 (by decide)).trans BitVec.extractLsb'_append_eq_right,
    (hpair 1 (by decide)).trans BitVec.extractLsb'_append_eq_left,
    (hlow 2 (by decide)).trans BitVec.extractLsb'_append_eq_left, BitVec.extractLsb'_append_eq_left⟩

/-- Two words with the same four lanes are one. -/
theorem eq_of_laneOf {v w : Word} (h : ∀ k, k < 4 → laneOf v k = laneOf w k) : v = w := by
  refine BitVec.eq_of_getLsbD_eq fun i hi => ?_
  rw [getLsbD_eq_laneOf v, getLsbD_eq_laneOf w, h (i / 8) (by omega)]

/-- A written lane replaces the value's, and an unwritten one leaves it (R156). -/
theorem laneOf_merge (l : Lanes) (old : Word) {k : Nat} (hk : k < 4) :
    laneOf (l.merge old) k = (laneByte l k).getD (laneOf old k) := by
  obtain ⟨h0, h1, h2, h3⟩ := laneOf_wordOfBytes (l.lane0.getD (laneOf old 0)) (l.lane1.getD (laneOf old 1))
    (l.lane2.getD (laneOf old 2)) (l.lane3.getD (laneOf old 3))
  match k, hk with
  | 0, _ => exact h0
  | 1, _ => exact h1
  | 2, _ => exact h2
  | 3, _ => exact h3

/-- An unwritten lane of a pulse or of an aliased write's operand counts 0 (R157, R158). -/
theorem laneOf_zeroFilled (l : Lanes) {k : Nat} (hk : k < 4) : laneOf l.zeroFilled k = (laneByte l k).getD 0 := by
  have hzero : laneOf 0 k = 0 := by simp [laneOf]
  rw [Lanes.zeroFilled, laneOf_merge l 0 hk, hzero]

theorem laneByte_full (v : Word) {k : Nat} (hk : k < 4) : laneByte (Lanes.full v) k = some (laneOf v k) := by
  match k, hk with
  | 0, _ | 1, _ | 2, _ | 3, _ => rfl

theorem laneByte_none {l : Lanes} {k : Nat} (hk : 4 ≤ k) : laneByte l k = none := by
  obtain ⟨k, rfl⟩ := Nat.exists_eq_add_of_le' hk
  rfl

/-- A write of all four lanes replaces the whole word. -/
theorem Lanes.merge_full (v old : Word) : (Lanes.full v).merge old = v :=
  eq_of_laneOf fun k hk => by rw [laneOf_merge _ _ hk, laneByte_full v hk, Option.getD_some]

/-! ### Aliases (R158) -/

/-- The bits of an aliased write's operand set, clear or invert those of the control word. -/
theorem aliasResult_getLsbD (k : AliasKind) (l : Lanes) (current : Word) {i : Nat} (hi : i < 32) :
    (aliasResult k l.zeroFilled current).getLsbD i =
      let operand := ((laneByte l (i / 8)).getD 0).getLsbD (i % 8)
      let current := current.getLsbD i
      match k with | .set => current || operand | .clear => current && !operand | .toggle => current ^^ operand := by
  have hoperand : l.zeroFilled.getLsbD i = ((laneByte l (i / 8)).getD 0).getLsbD (i % 8) := by
    rw [getLsbD_eq_laneOf, laneOf_zeroFilled l (by omega)]
  rw [← hoperand]
  cases k with
  | set => exact BitVec.getLsbD_or
  | clear => simp [aliasResult, hi]
  | toggle => exact BitVec.getLsbD_xor

/-- Outside RESET an aliased write is a write of the combined control word (R158). -/
theorem State.writeAlias_eq {s : State} (hr : s.bus.inReset = false) (k : AliasKind) (f : FaderId) (l : Lanes) :
    s.writeAlias k f l = s.takeControlWord f (aliasResult k l.zeroFilled (s.fader f).control.toWord) :=
  State.onBus_live hr ..

/-- Outside RESET a write of all four lanes of a control word takes the word written (R156). -/
theorem State.writeControl_full {s : State} (hr : s.bus.inReset = false) (f : FaderId) (v : Word) :
    s.writeControl f (Lanes.full v) = s.takeControlWord f v :=
  (State.onBus_live hr ..).trans (congrArg (s.takeControlWord f) (Lanes.merge_full v _))

/-- A control word that is taken is rewritten in its own four bytes, and the rest of memory is left (R156, R158). -/
theorem State.takeControlWord_read (s : State) (f : FaderId) (v : Word) {a : Nat}
    (h : ∀ k, k < 4 → a ≠ s.addressOf (.control f) + k) :
    Memory.read (s.takeControlWord f v).mem a = Memory.read s.mem a := by
  have hframe := MotionFrame.takeControl s f (ControlFields.ofWord v)
  have haddr : (s.takeControl f (ControlFields.ofWord v)).addressOf (.control f) = s.addressOf (.control f) := by
    simp only [State.addressOf, hframe.imageBase]
  obtain ⟨-, hkeep⟩ := storesAt_writeLanes s.mem (s.addressOf (.control f)) (Lanes.full (ControlFields.ofWord v).toWord)
  simp only [State.takeControlWord, State.rewrite, State.store, haddr, hframe.mem]
  exact hkeep a fun k ha => laneByte_none (Nat.le_of_not_lt fun hk => h k hk ha)

/-- Settles O9: an aliased and a full write take the same control word, and what they store is at the control word's place. -/
theorem aliasesAndWrittenLanes : Obligations.AliasesAndWrittenLanes := by
  unfold Obligations.AliasesAndWrittenLanes
  refine ⟨fun k f l s hr => ?redirected, fun l old k hk => ⟨laneOf_merge l old hk, laneOf_zeroFilled l hk, laneByte_full old hk⟩⟩
  case redirected =>
    refine ⟨aliasResult k l.zeroFilled (s.fader f).control.toWord, _, fun i hi => aliasResult_getLsbD k l _ hi, ?_,
      congrArg State.done (State.writeControl_full hr f _), fun j hj => s.takeControlWord_read f _ fun i hi => ?_⟩
    · cases k <;> exact congrArg State.done (State.writeAlias_eq hr ..)
    · simp only [State.addressOf, ImageWord.offset, faderOffset]
      cases k <;> dsimp only <;> omega

end Sys2Proof.Machine
end
